-- ==== Sys2Proof/Word.lean ====
section
/-! DEFINITION. The word types of the EC-64 and the sparse form in which its addressed stores are held. -/

namespace Sys2Proof

/-- The Job Port's 32-bit port word and every Job Store word (R1, R197). -/
abbrev Word := BitVec 32

/-- A 16-bit nonvolatile word, flag set or mask (R176, R203). -/
abbrev Half := BitVec 16

/-- An addressed store: pairs of a place and its contents, places rising, no pair whose contents are
what an unlisted place reads as. -/
abbrev Memory (α : Type) := List (Nat × α)

end Sys2Proof
end

