-- ==== Sys2Proof/Syntax.lean ====
section
/-! DEFINITION. The commands of the EC-64: one constructor per row of spec/opcode_table.json, each one event,
whole and indivisible (spec/95_what_each_step_holds.md). -/

namespace Sys2Proof

/-- A burst on the Cell Line: everything between the pair becoming driven and its release (R135, log 24). -/
structure Burst where
  /-- the drive in each half-bit of 250 ns, in order, `true` positive -/
  halves : List Bool
  /-- the own transmitter drove the pair during some part of the burst (R135) -/
  ownDrove : Bool
  deriving DecidableEq, Repr

/-- The rows of the table of operations and events. Times are instants of the model's clock (log 4). An
order's code and argument stand in the port word (R202), so the order rows have no operand (log 1). -/
inductive Instr where
  | powerOnReset
  | warmReset
  /-- `strap`: the levels of STRAP[3:0] at the release (R133) -/
  | resetRelease (strap : BitVec 4)
  /-- `t`: when the reading ends (R144, R150, R151 start the slot timer there) -/
  | startUpCompletion (t : Nat)
  | put
  /-- `pickup`: the level of PICKUP at the edge, which word 0xF00E shows (R210, log 5) -/
  | get (pickup : Bool)
  | peek
  | arm
  | armCheckFailed
  | armQueueWaitEnd
  | armSuccess
  | start
  | halt
  | resume
  | skipPart
  | abort
  | setPositionX
  | setPositionY
  | newPlate
  | newPlateFeedResume
  | writeConfig
  | clearFlags
  | setAttnMask
  | clearCounters
  | undefinedOrder
  | traverseStep
  | forwardCutStep
  /-- `v`: the sample on GAP[9:0] (R51) -/
  | gapSample (v : BitVec 10)
  | retractStep
  | replayStep
  | stallTimerExpiry
  | severTimerExpiry
  /-- `pickup`: the level of PICKUP, read if FEED is entered at once (R91, R92, log 5) -/
  | annealTimerExpiry (pickup : Bool)
  /-- `pickup`: the level of PICKUP, read at the entry to FEED (R92, log 5) -/
  | jetOkRise (pickup : Bool)
  | jetTimeout
  | pickupRise
  | feedTimeout
  | jetOkFall
  | wireOkRise
  | captureTimeout
  | withdrawEnd
  | wireOkFall
  | unthreadTimerExpiry
  | recordWaitEnd
  /-- `t`: when the slot arrives (R171); `driven`: the pair is already driven by another station (R145) -/
  | ownSlotArrival (t : Nat) (driven : Bool)
  /-- `t`: the end of the frame's last bit (R140, R165) -/
  | frameSent (t : Nat)
  | readbackMismatch
  /-- `t`: the end of the burst (R142, R143) -/
  | frameReceived (t : Nat) (b : Burst)
  | lineStuckTimeout
  | stuckClear
  | threadWarningExpiry
  | eraseEnd
  /-- `readBack`: what the array shows when the written word is read back (R179, R180) -/
  | writeEnd (readBack : Half)
  /-- `bit`: the level of JDAT at the edge (R197) -/
  | addrIn (bit : Bool)
  /-- `bit`: the level of JDAT at the edge (R197) -/
  | wordIn (bit : Bool)
  | wordOut
  | hold
  | powerLoss
  deriving DecidableEq, Repr

end Sys2Proof
end

