-- ==== Sys2Proof/Config.lean ====
section
/-! DEFINITION. The fixed times, capacities and factory values that the manual gives every EC-64. The cell
parameters, which a cell's configuration words choose, are in State; the manual leaves no value free. -/

namespace Sys2Proof.Config

/-- Ticks of the model's clock in a microsecond (a frame lasts 36.5 µs, R136; log 4). -/
def ticksPerUs : Nat := 2
/-- Ticks in a millisecond. -/
def ticksPerMs : Nat := 2000

/-- Largest magnitude of a machine coordinate (R22). -/
def coordLimit : Int := 1048575

/-- A slot, 64 µs, in ticks (R136). -/
def slotTicks : Nat := 128
/-- A frame, 73 bits, 36.5 µs, in ticks (R136). -/
def frameTicks : Nat := 73

/-- SEVER, JET wait, CAPTURE wait, WITHDRAW and UNTHREAD in ms (R85, R87). -/
def severMs : Nat := 250
def jetMs : Nat := 1000
def captureMs : Nat := 500
def withdrawMs : Nat := 300
def unthreadMs : Nat := 250

/-- An erase and a write of the array each take this many ms (R179). -/
def arrayStageMs : Nat := 15

/-- The stuck timer's limit in µs (R146). -/
def stuckUs : Nat := 200

/-- The same limit in half-bits of 250 ns (R135, R146). -/
def stuckHalves : Nat := 800

/-- Capacity of the backtrack log (R59). -/
def logCapacity : Nat := 256
/-- Capacity of the pending record queue (R183). -/
def queueCapacity : Nat := 8
/-- Updates fed by NEW_PLATE (R189). -/
def newPlateUpdates : Nat := 65
/-- The plate identity word (R176). -/
def plateWord : Nat := 64
/-- Where the quiet count stops (R147). -/
def quietLimit : Nat := 16
/-- Where the failed-attempt count stops (R95). -/
def failedLimit : Nat := 8

/-- The factory thresholds (R54). -/
def factoryTs : Nat := 180
def factoryGt : Nat := 400
def factoryTo : Nat := 780

/-- The frame's preamble, first bit first (R138). -/
def preamble : List Bool := [true, false, false, true, false, true, true, false]

end Sys2Proof.Config
end

