-- ==== Sys2Proof/Machine/State.lean ====
section
/-! DEFINITION. The state of the EC-64, block by block as 00_scope.md names the blocks, and the state after
power-on reset. Values that the manual forms afresh from other state whenever that changes (Gf, F, Feff, Eact,
the causes, the outputs, ATTN, the unattributed total, the peer link condition) are functions, not fields
(log 29). -/

namespace Sys2Proof.Machine

/-- No event stops the EC-64: an event that cannot arise leaves the state as it stands (log 2). Nobody
raises a fault, which is safe and unsafe of nothing. -/
inductive Fault where
  deriving DecidableEq, Repr

/-- Why a step has no meaning. -/
inductive Refusal where
  /-- raised by an arm of `exec` whose row has no meaning yet; safe; no arm raises it -/
  | notModelled (mnemonic : String)
  deriving DecidableEq, Repr

/-- Power and reset (00_scope.md, Resets; R192): no power; RESET_N asserted or POR in force; released with
the start-up reading running; start-up complete. -/
inductive Power where
  | off | held | starting | ready
  deriving DecidableEq, Repr

/-! ## Job Store -/

/-- The last ARM error codes (R10, R210). -/
inductive ArmError where
  | none | badHeader | noPlate | plateMismatch | badPart | badSegment | badArc | badMark
  deriving DecidableEq, Repr

/-- The ARM in flight (R8 to R20). -/
inductive ArmRun where
  /-- no ARM in flight -/
  | idle
  /-- the checks met this first failure (R10) -/
  | failing (e : ArmError) (idx : Nat)
  /-- `part`'s ABANDONED waits for queue room (R19); `joined`: a write completion has placed it -/
  | waiting (part : Nat) (joined : Bool)
  /-- every part state has been handed on (R20) -/
  | handed
  deriving DecidableEq, Repr

/-- The Job Store (R1). -/
structure JobStore where
  mem     : Memory Word
  lengths : Memory Nat
  holds   : Memory (Int × Int)
  armErr  : ArmError
  armIdx  : Nat
  arm     : ArmRun
  deriving DecidableEq, Repr

/-- A part entry read whole (R3, R208). -/
structure PartEntry where
  policy    : Nat
  zone      : Nat
  eprim     : Nat
  fmax      : Nat
  startX    : Int
  startY    : Int
  firstSeg  : Nat
  segCount  : Nat
  firstMark : Nat
  markCount : Nat
  deriving DecidableEq, Repr

/-- A segment entry (R4, R208); kind 0 LINE, 1 ARC_CW, 2 ARC_CCW, 3 undefined. -/
structure SegEntry where
  kind : Nat
  endX : Int
  endY : Int
  cenX : Int
  cenY : Int
  deriving DecidableEq, Repr

/-- A mark entry (R5, R208); kind 0 HOLD, 1 ENERGY, 2 FEED, 3 undefined. -/
structure MarkEntry where
  kind   : Nat
  offset : Nat
  value  : Nat
  relSeg : Nat
  deriving DecidableEq, Repr

/-! ## Path Engine -/

inductive Axis where
  | x | y
  deriving DecidableEq, Repr

/-- One step, or one entry of the log or stack: an axis and a sign (R59); `pos` is increasing. -/
structure PathStep where
  axis : Axis
  pos  : Bool
  deriving DecidableEq, Repr

inductive EngineState where
  | idle | standby | traverse | pass
  deriving DecidableEq, Repr

inductive PassKind where
  | none | rough | release
  deriving DecidableEq, Repr

inductive SubState where
  | run | gap | stopped
  deriving DecidableEq, Repr

/-- A loaded traverse (R30, R32). -/
structure Traverse where
  sx : Int
  sy : Int
  tx : Int
  ty : Int
  moving : Bool
  deriving DecidableEq, Repr

/-- The five latched progress words (R48). -/
structure Snapshot where
  part  : Nat
  kind  : PassKind
  seg   : Nat
  off   : Nat
  count : Nat
  x     : Int
  y     : Int
  deriving DecidableEq, Repr

/-- The Path Engine (R21 to R49). -/
structure PathEngine where
  engine     : EngineState
  posX       : Int
  posY       : Int
  dirX       : Bool
  dirY       : Bool
  pulsesX    : Nat
  pulsesY    : Nat
  traverse   : Option Traverse
  passPart   : Nat
  passKind   : PassKind
  sub        : Option SubState
  remembered : Option SubState
  awaiting   : Bool
  seg        : Nat
  off        : Nat
  count      : Nat
  markPtr    : Option Nat
  fired      : BitVec 256
  stepTimer  : Option Nat
  snap       : Snapshot
  deriving DecidableEq, Repr

/-! ## Gap Control -/

inductive GapClass where
  | short | normal | openGap
  deriving DecidableEq, Repr

inductive GapMode where
  | idle | feeding | retracting | replaying
  /-- phase TIMING (R66) -/
  | stalledTiming
  /-- phase STUCK (R67) -/
  | stalledStuck
  | wireWait
  deriving DecidableEq, Repr

/-- Gap Control (R50 to R72). `log` and `redo` have their newest entry first. -/
structure GapControl where
  acc        : Nat
  cls        : GapClass
  mode       : GapMode
  halted     : Bool
  asked      : Bool
  limit      : Nat
  log        : List PathStep
  redo       : List PathStep
  stepTimer  : Option Nat
  stallTimer : Option Nat
  deriving DecidableEq, Repr

/-! ## Energy Governor -/

/-- The Energy Governor (R73 to R84). -/
structure Energy where
  primary  : Nat
  recovery : Nat
  deriving DecidableEq, Repr

/-! ## Threading Unit -/

inductive Stage where
  | idle | sever | anneal | jet | feed | capture | withdraw | threaded | unthread | paused
  deriving DecidableEq, Repr

inductive ThreadMode where
  | none | startHole | kerf
  deriving DecidableEq, Repr

/-- The Threading Unit (R85 to R106) with the levels of its three sensing inputs. -/
structure ThreadUnit where
  stage  : Stage
  mode   : ThreadMode
  failed : Nat
  timer  : Option Nat
  jetOk  : Bool
  pickup : Bool
  wireOk : Bool
  deriving DecidableEq, Repr

/-! ## Part Sequencer -/

inductive JobState where
  | disarmed | arming | armed | running | halted | done
  deriving DecidableEq, Repr

inductive Phase where
  | none | rough | release
  deriving DecidableEq, Repr

inductive HaltReason where
  | none | host | record
  deriving DecidableEq, Repr

inductive HeadState where
  | idle | traverse | waitThread | threading | cutting | stalled | waitRelease | releasing | unthreading | parked
  deriving DecidableEq, Repr

/-- Record states (R177). -/
inductive RecState where
  | unknown | uncut | cutting | tabbed | released | held | abandoned
  deriving DecidableEq, Repr

/-- A held part state (R115): none held, the mark "skipped", or a record state. -/
inductive Held where
  | dropped | skipped | state (r : RecState)
  deriving DecidableEq, Repr

/-- What a threading, or the traverse or wait before it, serves (R118, R125, R128, R129). -/
inductive Purpose where
  /-- the rough cut of a part not yet captured (R118) -/
  | startHole
  /-- the same start hole again, the record being CUTTING (R128) -/
  | startHoleAgain
  /-- a release-phase part, at its hold position (R125) -/
  | releaseKerf
  /-- a pass that a wire break stopped (R129) -/
  | rethreadPass
  /-- a hold-point wait that a wire break stopped (R129) -/
  | rethreadHold
  deriving DecidableEq, Repr

/-- A record update of the Part Sequencer (R115); `defer`: the part is appended to the deferred list
after it (R121). -/
structure PartUpdate where
  part  : Nat
  state : RecState
  zone  : Nat
  defer : Bool
  deriving DecidableEq, Repr

/-- What follows a record update in its sequence (R116). -/
inductive Follow where
  /-- load the rough pass (R119) -/
  | loadRough
  /-- thread again at the start hole: the wire was lost in the wait (R128) -/
  | threadAgain
  /-- request an unthread (R104) -/
  | unthread
  /-- an unthread requested before the update runs on (R126) -/
  | unthreadRunning
  /-- the part is finished: no unthread goes with the update -/
  | nextPart
  deriving DecidableEq, Repr

/-- Where the current part stands: the cases of the tables of R109, R110, R111, R128 and R130. -/
inductive Activity where
  | none
  | traversing (p : Purpose)
  | waitThread (p : Purpose)
  | threading (p : Purpose)
  | passing
  | waitRelease
  | unthreading
  /-- a record wait (R116); `joined`: a write completion has placed the update -/
  | recordWait (u : PartUpdate) (k : Follow) (joined : Bool)
  /-- a record wait that ended in a halt: what follows waits for RESUME (R109) -/
  | recordJoined (k : Follow)
  /-- between the end of one part and the start of the next -/
  | boundary
  deriving DecidableEq, Repr

/-- The Part Sequencer (R107 to R132). -/
structure Sequencer where
  job            : JobState
  phase          : Phase
  reason         : HaltReason
  current        : Option Nat
  attempts       : Option Nat
  head           : HeadState
  headBeforeHalt : HeadState
  activity       : Activity
  held           : Memory Held
  scan           : Nat
  deferred       : List (Nat × Nat)
  ownCount       : BitVec 8
  lastRelease    : Option Nat
  takenZone      : Nat
  marker         : Bool
  deriving DecidableEq, Repr

/-! ## Cell Line Interface -/

inductive LineMode where
  | off | solo | noSlot | listen | active | backoff | stuck
  deriving DecidableEq, Repr

inductive LinkCondition where
  | good | lost | noSlot | solo
  deriving DecidableEq, Repr

/-- The fields of an announcement frame between preamble and check code (R138). -/
structure Frame where
  station   : BitVec 4
  head      : BitVec 4
  zone      : BitVec 6
  age       : BitVec 4
  plate     : BitVec 16
  count     : BitVec 8
  lastZone  : BitVec 6
  lastValid : Bool
  deriving DecidableEq, Repr

/-- The frame being sent; `live`: it carries an intent that has not ended since (R140). -/
structure Sending where
  frame : Frame
  live  : Bool
  deriving DecidableEq, Repr

/-- The Cell Line Interface (R133 to R152). `stuckTimer`: since when another station drives the pair;
`releasedAt`: since when the pair has been released without a break (R146, log 23). -/
structure CellLine where
  strap      : BitVec 4
  station    : Nat
  mode       : LineMode
  nextSlot   : Option Nat
  lastSlot   : Option Nat
  listenLeft : Nat
  sending    : Option Sending
  collision  : Nat
  crc        : Nat
  dup        : Nat
  stray      : Nat
  quiet      : Nat
  heard      : Bool
  stuckTimer : Option Nat
  releasedAt : Option Nat
  deriving DecidableEq, Repr

/-! ## Peer View and Admission -/

inductive Liveness where
  | never | fresh | stale | absent
  deriving DecidableEq, Repr

/-- A peer entry (R153); `heard`: a valid frame came since the last own-slot arrival (R155). -/
structure Peer where
  live       : Liveness
  missed     : Nat
  head       : BitVec 4
  zone       : BitVec 6
  age        : BitVec 4
  plate      : BitVec 16
  isForeign  : Bool
  last       : BitVec 8
  cumulative : Nat
  attributed : Nat
  heard      : Bool
  deriving DecidableEq, Repr

/-- The entry of a station never heard (R175). -/
def Peer.never : Peer :=
  { live := .never, missed := 0, head := 0, zone := 0, age := 0, plate := 0, isForeign := false, last := 0,
    cumulative := 0, attributed := 0, heard := false }

inductive IntentKind where
  | none | thread | release
  deriving DecidableEq, Repr

/-- The own intent record (R164). -/
structure Intent where
  kind      : IntentKind
  ageToSend : Nat
  lastAge   : Option Nat
  firstAt   : Option Nat
  warnTimer : Option Nat
  deriving DecidableEq, Repr

/-- Peer View and Admission (R153 to R175). -/
structure PeerView where
  peers  : Memory Peer
  tally  : Memory Nat
  errors : Nat
  intent : Intent
  deriving DecidableEq, Repr

/-! ## Part Record Store -/

/-- An entry of the pending record queue (R183). -/
structure QueueEntry where
  word  : Nat
  value : Half
  mark  : Bool
  deriving DecidableEq, Repr

inductive UpdateStage where
  | none | erase | write
  deriving DecidableEq, Repr

/-- The Part Record Store (R176 to R194). -/
structure RecordStore where
  nv        : Memory Half
  queue     : List QueueEntry
  stage     : UpdateStage
  writing   : Half
  retried   : Bool
  timer     : Option Nat
  feed      : Option Nat
  plateArg  : Half
  announced : Half
  deriving DecidableEq, Repr

/-! ## Job Port -/

inductive PortMode where
  | hold | addrIn | wordIn | put | get | wordOut | order | peek
  deriving DecidableEq, Repr

inductive Answer where
  | none | accepted | refusedState | refusedBusy | refusedArg | refusedStarting
  deriving DecidableEq, Repr

/-- The Job Port (R195 to R213). -/
structure JobPort where
  lastMode : PortMode
  marker   : Bool
  addr     : Half
  word     : Word
  outBit   : BitVec 5
  jdat     : Option Bool
  answer   : Answer
  answers  : BitVec 4
  flags    : Half
  mask     : Half
  deriving DecidableEq, Repr

/-! ## Cell parameters -/

/-- The cell parameters as the start-up reading left them (R191, R212). -/
structure Params where
  cellSize         : Nat
  stationOffset    : Nat
  jetLimit         : Nat
  dropLimit        : Nat
  zx               : Nat
  zy               : Nat
  eovr             : Nat
  enThread         : Bool
  enRelease        : Bool
  enRecovery       : Bool
  recoverySteps    : Nat
  ts               : Nat
  gt               : Nat
  tOpen            : Nat
  retractMax       : Nat
  retractRate      : Nat
  shortHold        : Nat
  threadTries      : Nat
  kerfTries        : Nat
  annealTime       : Nat
  feedTimeout      : Nat
  releaseWait      : Nat
  releaseAttempts  : Nat
  xmax             : Nat
  ymax             : Nat
  rapidRate        : Nat
  threadAdmitWarn  : Nat
  attnMask         : Half
  deriving DecidableEq, Repr

/-- Before the start-up completion the configuration in use reads 0 (R201). -/
def Params.zero : Params :=
  { cellSize := 0, stationOffset := 0, jetLimit := 0, dropLimit := 0, zx := 0, zy := 0, eovr := 0,
    enThread := false, enRelease := false, enRecovery := false, recoverySteps := 0, ts := 0, gt := 0, tOpen := 0,
    retractMax := 0, retractRate := 0, shortHold := 0, threadTries := 0, kerfTries := 0, annealTime := 0,
    feedTimeout := 0, releaseWait := 0, releaseAttempts := 0, xmax := 0, ymax := 0, rapidRate := 0,
    threadAdmitWarn := 0, attnMask := 0 }

/-! ## The whole -/

/-- The EC-64 and the commands waiting for it. -/
structure State where
  pending : List Instr
  now     : Nat
  power   : Power
  cfg     : Params
  js      : JobStore
  pe      : PathEngine
  gc      : GapControl
  eg      : Energy
  tu      : ThreadUnit
  ps      : Sequencer
  cli     : CellLine
  pva     : PeerView
  prs     : RecordStore
  jp      : JobPort
  deriving DecidableEq, Repr

/-- What one step answers. -/
abbrev Result := Host.Outcome State Fault Refusal

/-! ## Reset values, block by block -/

/-- R7. -/
def JobStore.reset : JobStore :=
  { mem := [], lengths := [], holds := [], armErr := .none, armIdx := 0, arm := .idle }

/-- R49. -/
def Snapshot.reset : Snapshot :=
  { part := 0, kind := .none, seg := 0, off := 0, count := 0, x := 0, y := 0 }

/-- R21, R22, R24, R39, R43, R45, R49. -/
def PathEngine.reset : PathEngine :=
  { engine := .idle, posX := 0, posY := 0, dirX := false, dirY := false, pulsesX := 0, pulsesY := 0,
    traverse := none, passPart := 0, passKind := .none, sub := none, remembered := none, awaiting := false,
    seg := 0, off := 0, count := 0, markPtr := some 0, fired := 0, stepTimer := none, snap := Snapshot.reset }

/-- R72. -/
def GapControl.reset : GapControl :=
  { acc := 0, cls := .short, mode := .idle, halted := false, asked := false, limit := 0, log := [], redo := [],
    stepTimer := none, stallTimer := none }

/-- R84. -/
def Energy.reset : Energy := { primary := 0, recovery := 0 }

/-- R106; the input levels are the world's (log 34). -/
def ThreadUnit.reset : ThreadUnit :=
  { stage := .idle, mode := .none, failed := 0, timer := none, jetOk := false, pickup := false, wireOk := false }

/-- R132. The manual sets the own release count at the start-up completion alone (R122, R193); that it reads 0 from a
reset to there is a DESIGN CHOICE (log 28). -/
def Sequencer.reset : Sequencer :=
  { job := .disarmed, phase := .none, reason := .none, current := none, attempts := none, head := .idle,
    headBeforeHalt := .idle, activity := .none, held := [], scan := 0, deferred := [], ownCount := 0,
    lastRelease := none, takenZone := 0, marker := false }

/-- R152, R149. -/
def CellLine.reset : CellLine :=
  { strap := 0, station := 0, mode := .off, nextSlot := none, lastSlot := none, listenLeft := 0,
    sending := none, collision := 0, crc := 0, dup := 0, stray := 0, quiet := 0, heard := false,
    stuckTimer := none, releasedAt := none }

/-- R164, R175. -/
def Intent.empty : Intent :=
  { kind := .none, ageToSend := 0, lastAge := none, firstAt := none, warnTimer := none }

/-- R175, R159, R161. -/
def PeerView.reset : PeerView := { peers := [], tally := [], errors := 0, intent := Intent.empty }

/-- R194; the 80 words of a new EC-64 read 0 (R176). -/
def RecordStore.reset : RecordStore :=
  { nv := [], queue := [], stage := .none, writing := 0, retried := false, timer := none, feed := none,
    plateArg := 0, announced := 0 }

/-- R195. -/
def JobPort.reset : JobPort :=
  { lastMode := .hold, marker := false, addr := 0, word := 0, outBit := 31, jdat := none, answer := .none,
    answers := 0, flags := 0, mask := 0 }

/-- A new EC-64 that has taken POR and has not yet been released from reset (log 20). -/
def State.reset : State :=
  { pending := [], now := 0, power := .held, cfg := Params.zero, js := JobStore.reset, pe := PathEngine.reset,
    gc := GapControl.reset, eg := Energy.reset, tu := ThreadUnit.reset, ps := Sequencer.reset,
    cli := CellLine.reset, pva := PeerView.reset, prs := RecordStore.reset, jp := JobPort.reset }

end Sys2Proof.Machine
end

