-- ==== Sys2Proof/Machine/Ops.lean ====
section
/-! DEFINITION. The operations every block uses: reading and writing an addressed store, packing fields into a
word, bits and numbers, the clock, and one update per block of the state. -/

namespace Sys2Proof.Machine

/-! ## Addressed stores -/

/-- What stands at a place; `d` is what an unlisted place reads as. -/
def Memory.read {α : Type} (d : α) : Memory α → Nat → α
  | [], _ => d
  | (a, v) :: m, k => if k = a then v else Memory.read d m k

/-- Put `v` at place `k`, keeping the canonical form. -/
def Memory.write {α : Type} [DecidableEq α] (d : α) (k : Nat) (v : α) : Memory α → Memory α
  | [] => if v = d then [] else [(k, v)]
  | (a, x) :: m =>
    if k < a then (if v = d then (a, x) :: m else (k, v) :: (a, x) :: m)
    else if k = a then (if v = d then m else (k, v) :: m)
    else (a, x) :: Memory.write d k v m

/-- Places strictly rising from `lo`, and none that reads as an unlisted place does. -/
def Memory.wfFrom {α : Type} [DecidableEq α] (d : α) : Nat → Memory α → Bool
  | _, [] => true
  | lo, (a, x) :: m => decide (lo ≤ a) && decide (x ≠ d) && Memory.wfFrom d (a + 1) m

/-- The canonical form. -/
def Memory.wf {α : Type} [DecidableEq α] (d : α) (m : Memory α) : Bool := Memory.wfFrom d 0 m

/-! ## Numbers and bits -/

/-- Fields as (lowest bit, width, value), laid into a word, each value in its width. -/
def pack (fields : List (Nat × Nat × Nat)) : Word :=
  BitVec.ofNat 32 (fields.foldr (fun f acc => f.2.2 % 2 ^ f.2.1 * 2 ^ f.1 + acc) 0)

/-- `len` bits of a word from bit `lo`, unsigned. -/
def field (w : Word) (lo len : Nat) : Nat := (w.extractLsb' lo len).toNat

/-- `len` bits of a word from bit `lo`, two's complement. -/
def signedField (w : Word) (lo len : Nat) : Int := (w.extractLsb' lo len).toInt

/-- The bits of a value, most significant first (R138). -/
def msbFirst {n : Nat} (w : BitVec n) : List Bool := (List.range n).map fun i => w.getMsbD i

/-- The number that bits spell, most significant first. -/
def bitsToNat (bs : List Bool) : Nat := bs.foldl (fun acc b => 2 * acc + b.toNat) 0

/-- The largest `r` of `r + 2^b` steps, bit by bit, whose square does not exceed `n`. -/
def isqrtFrom : Nat → Nat → Nat → Nat
  | 0, _, r => r
  | b + 1, n, r => isqrtFrom b n (if (r + 2 ^ b) * (r + 2 ^ b) ≤ n then r + 2 ^ b else r)

/-- floor(sqrt n) for n below 2^64; R15 asks it of numbers below 2^44. -/
def isqrt (n : Nat) : Nat := isqrtFrom 32 n 0

/-- A count that stops at its limit (00_scope.md, Numbers). -/
def saturate (limit n : Nat) : Nat := min limit n

/-- The 16-bit saturating counters (R149, R159). -/
def countUp (n : Nat) : Nat := saturate 65535 (n + 1)

/-! ## The clock -/

/-- The clock at an event that comes at instant `t`; an instant already past is taken as now (log 4). -/
def State.atTime (t : Nat) (s : State) : State := { s with now := max s.now t }

/-! ## One update per block -/

def State.setPending (s : State) (q : List Instr) : State := { s with pending := q }
def State.setPower (s : State) (p : Power) : State := { s with power := p }
def State.setCfg (s : State) (c : Params) : State := { s with cfg := c }
def State.setJs (s : State) (b : JobStore) : State := { s with js := b }
def State.setPe (s : State) (b : PathEngine) : State := { s with pe := b }
def State.setGc (s : State) (b : GapControl) : State := { s with gc := b }
def State.setEg (s : State) (b : Energy) : State := { s with eg := b }
def State.setTu (s : State) (b : ThreadUnit) : State := { s with tu := b }
def State.setPs (s : State) (b : Sequencer) : State := { s with ps := b }
def State.setCli (s : State) (b : CellLine) : State := { s with cli := b }
def State.setPva (s : State) (b : PeerView) : State := { s with pva := b }
def State.setPrs (s : State) (b : RecordStore) : State := { s with prs := b }
def State.setJp (s : State) (b : JobPort) : State := { s with jp := b }

end Sys2Proof.Machine
end

