-- ==== Sys2Proof/Machine/Flags.lean ====
section
/-! DEFINITION. The sixteen event flags and the attention output (R203 to R206). -/

namespace Sys2Proof.Machine

/-- Bit of each flag (R203). -/
def flagJobDone : Nat := 0
def flagPartDone : Nat := 1
def flagPartHeld : Nat := 2
def flagThreadFail : Nat := 3
def flagWireBreak : Nat := 4
def flagShortStuck : Nat := 5
def flagJetFault : Nat := 6
def flagAdmitSlow : Nat := 7
def flagRecordFault : Nat := 8
def flagRecordUnknown : Nat := 9
def flagLineStuck : Nat := 10
/-- LINE_LOST and LINE_CONFIG share one position (R148, R203). -/
def flagLineLost : Nat := 11
def flagDupStation : Nat := 12
def flagConfigClamped : Nat := 13
def flagArmFailed : Nat := 14
def flagPlateForeign : Nat := 15

/-- A flags word with one flag set, whatever it held (R203). -/
def withFlag (flags : Half) (bit : Nat) : Half := flags ||| (1#16 <<< bit)

/-- An event sets its flag (R203). -/
def raiseFlag (bit : Nat) (s : State) : State := s.setJp { s.jp with flags := withFlag s.jp.flags bit }

/-- Is a flag set? -/
def flagSet (s : State) (bit : Nat) : Bool := s.jp.flags.getLsbD bit

/-- CLEAR_FLAGS with a mask (R204). -/
def clearFlagBits (flags mask : Half) : Half := flags &&& ~~~mask

/-- ATTN: some flag is set whose mask bit is set (R206). -/
def attn (s : State) : Bool := decide (s.jp.flags &&& s.jp.mask ≠ 0#16)

end Sys2Proof.Machine
end

