-- ==== Sys2Proof/Machine/Operands.lean ====
section
/-! DEFINITION. Every layout the manual gives: Job Store entries (R208), part records and the Cell Line frame
(R209, R138, R139), configuration words (R191, R212), order words (R213). -/

namespace Sys2Proof.Machine

/-! ## Codes -/

/-- Head state codes (R113). -/
def headCode : HeadState → Nat
  | .idle => 0 | .traverse => 1 | .waitThread => 2 | .threading => 3 | .cutting => 4
  | .stalled => 5 | .waitRelease => 6 | .releasing => 7 | .unthreading => 8 | .parked => 9

/-- Record state codes (R177). -/
def recCode : RecState → Nat
  | .unknown => 0 | .uncut => 1 | .cutting => 2 | .tabbed => 3 | .released => 4 | .held => 5 | .abandoned => 6

def jobCode : JobState → Nat
  | .disarmed => 0 | .arming => 1 | .armed => 2 | .running => 3 | .halted => 4 | .done => 5

def phaseCode : Phase → Nat
  | .none => 0 | .rough => 1 | .release => 2

def reasonCode : HaltReason → Nat
  | .none => 0 | .host => 1 | .record => 2

def answerCode : Answer → Nat
  | .none => 0 | .accepted => 1 | .refusedState => 2 | .refusedBusy => 3 | .refusedArg => 4 | .refusedStarting => 5

def lineModeCode : LineMode → Nat
  | .off => 0 | .solo => 1 | .noSlot => 2 | .listen => 3 | .active => 4 | .backoff => 5 | .stuck => 6

def linkCode : LinkCondition → Nat
  | .good => 0 | .lost => 1 | .noSlot => 2 | .solo => 3

def updateStageCode : UpdateStage → Nat
  | .none => 0 | .erase => 1 | .write => 2

def passKindCode : PassKind → Nat
  | .none => 0 | .rough => 1 | .release => 2

def armErrorCode : ArmError → Nat
  | .none => 0 | .badHeader => 1 | .noPlate => 2 | .plateMismatch => 3 | .badPart => 4 | .badSegment => 5
  | .badArc => 6 | .badMark => 7

def engineCode : EngineState → Nat
  | .idle => 0 | .standby => 1 | .traverse => 2 | .pass => 3

/-- No pass loaded reads as 0 (log 17). -/
def subCode : Option SubState → Nat
  | none => 0 | some .run => 0 | some .gap => 1 | some .stopped => 2

def gapModeCode : GapMode → Nat
  | .idle => 0 | .feeding => 1 | .retracting => 2 | .replaying => 3
  | .stalledTiming => 4 | .stalledStuck => 4 | .wireWait => 5

def gapClassCode : GapClass → Nat
  | .short => 0 | .normal => 1 | .openGap => 2

def stageCode : Stage → Nat
  | .idle => 0 | .sever => 1 | .anneal => 2 | .jet => 3 | .feed => 4 | .capture => 5 | .withdraw => 6
  | .threaded => 7 | .unthread => 8 | .paused => 9

def threadModeCode : ThreadMode → Nat
  | .none => 0 | .startHole => 1 | .kerf => 2

def livenessCode : Liveness → Nat
  | .never => 0 | .fresh => 1 | .stale => 2 | .absent => 3

/-! ## Job Store entries -/

/-- A Job Store word; an unlisted address reads 0, as POR leaves it (R7). -/
def JobStore.word (js : JobStore) (a : Nat) : Word := Memory.read 0#32 js.mem a

/-- An address in one of the four tables (R1). -/
def isStoreAddress (a : Nat) : Bool :=
  decide (a ≤ 0x0003) || (decide (0x0040 ≤ a) && decide (a ≤ 0x017F))
    || (decide (0x0200 ≤ a) && decide (a ≤ 0x03FF)) || (decide (0x1000 ≤ a) && decide (a ≤ 0x2FFF))

/-- Header fields (R2, R208). -/
def JobStore.plate (js : JobStore) : Nat := field (js.word 0) 0 16
def JobStore.partCount (js : JobStore) : Nat := field (js.word 1) 0 16
def JobStore.segmentCount (js : JobStore) : Nat := field (js.word 2) 0 16
def JobStore.markCount (js : JobStore) : Nat := field (js.word 3) 0 16

/-- Part entry `p` (R1, R3, R208). -/
def JobStore.part (js : JobStore) (p : Nat) : PartEntry :=
  let a := 0x0040 + 5 * p
  { policy := field (js.word a) 0 2
    zone := field (js.word a) 4 6
    eprim := field (js.word a) 12 4
    fmax := field (js.word a) 16 16
    startX := signedField (js.word (a + 1)) 0 21
    startY := signedField (js.word (a + 2)) 0 21
    firstSeg := field (js.word (a + 3)) 0 16
    segCount := field (js.word (a + 3)) 16 16
    firstMark := field (js.word (a + 4)) 0 16
    markCount := field (js.word (a + 4)) 16 16 }

/-- Segment entry `n` (R1, R4, R208). -/
def JobStore.segment (js : JobStore) (n : Nat) : SegEntry :=
  let a := 0x1000 + 4 * n
  { kind := field (js.word a) 24 2
    endX := signedField (js.word a) 0 21
    endY := signedField (js.word (a + 1)) 0 21
    cenX := signedField (js.word (a + 2)) 0 21
    cenY := signedField (js.word (a + 3)) 0 21 }

/-- Mark entry `n` (R1, R5, R208). -/
def JobStore.mark (js : JobStore) (n : Nat) : MarkEntry :=
  let a := 0x0200 + 2 * n
  { kind := field (js.word a) 24 2
    offset := field (js.word a) 0 21
    value := field (js.word (a + 1)) 0 16
    relSeg := field (js.word (a + 1)) 16 16 }

/-- Derived length of segment table entry `n` (R1, R14). -/
def JobStore.length (js : JobStore) (n : Nat) : Nat := Memory.read 0 js.lengths n

/-- Derived hold position of part `p` (R1, R17). -/
def JobStore.holdAt (js : JobStore) (p : Nat) : Int × Int := Memory.read (0, 0) js.holds p

/-- Policy codes (R208). -/
def policyDrop : Nat := 0
def policyTabRelease : Nat := 1
def policyTabHold : Nat := 2

/-- Segment kinds (R208). -/
def segLine : Nat := 0
def segArcCw : Nat := 1
def segArcCcw : Nat := 2

/-- Mark kinds (R208). -/
def markHold : Nat := 0
def markEnergy : Nat := 1
def markFeed : Nat := 2

/-- Where relative segment `k` of part `e` starts (R4). -/
def JobStore.segStart (js : JobStore) (e : PartEntry) (k : Nat) : Int × Int :=
  match k with
  | 0 => (e.startX, e.startY)
  | j + 1 => let g := js.segment (e.firstSeg + j); (g.endX, g.endY)

/-- The relative index of a part's HOLD mark: the first of its marks of that kind (R3, R5). -/
def JobStore.holdMark (js : JobStore) (e : PartEntry) : Option Nat :=
  (List.range e.markCount).find? fun m => decide ((js.mark (e.firstMark + m)).kind = markHold)

/-! ## Part records (R177, R209) -/

/-- The record word of a state and a zone. -/
def recordWord (r : RecState) (zone : Nat) : Half := BitVec.ofNat 16 (recCode r + 8 * zone)

/-- The zone field of a record word. -/
def recordZone (w : Half) : Nat := (w.extractLsb' 3 6).toNat

/-- The state a record word decodes to: the code 1 to 6 with bits 15 to 9 zero, else UNKNOWN. -/
def recordState (w : Half) : RecState :=
  if w.extractLsb' 9 7 ≠ 0#7 then .unknown
  else match (w.extractLsb' 0 3).toNat with
    | 1 => .uncut
    | 2 => .cutting
    | 3 => .tabbed
    | 4 => .released
    | 5 => .held
    | 6 => .abandoned
    | _ => .unknown

/-- A word of the array as it holds it; a new array reads 0 (R176). -/
def RecordStore.nvWord (r : RecordStore) (n : Nat) : Half := Memory.read 0#16 r.nv n

/-! ## The Cell Line frame (R138, R139, R209) -/

/-- One bit through the check register (R139). -/
def crcBit (r : BitVec 16) (b : Bool) : BitVec 16 :=
  if Bool.xor b r.msb then (r <<< 1) ^^^ 0x1021#16 else r <<< 1

/-- The check code of a run of bits (R139). -/
def checkCode (bs : List Bool) : BitVec 16 := bs.foldl crcBit 0xFFFF#16

/-- The 49 bits from station to last-release valid, in the order sent (R138). -/
def Frame.body (f : Frame) : List Bool :=
  msbFirst f.station ++ msbFirst f.head ++ msbFirst f.zone ++ msbFirst f.age ++ msbFirst f.plate
    ++ msbFirst f.count ++ msbFirst f.lastZone ++ [f.lastValid]

/-- The 73 bits on the line (R138). -/
def Frame.bits (f : Frame) : List Bool := Config.preamble ++ f.body ++ msbFirst (checkCode f.body)

/-- The `len` bits from bit `at` of a run, as a number. -/
def bitField (bs : List Bool) (at' len : Nat) : Nat := bitsToNat ((bs.drop at').take len)

/-- The fields of 73 received bits (R209). -/
def frameOfBits (bs : List Bool) : Frame :=
  { station := BitVec.ofNat 4 (bitField bs 8 4)
    head := BitVec.ofNat 4 (bitField bs 12 4)
    zone := BitVec.ofNat 6 (bitField bs 16 6)
    age := BitVec.ofNat 4 (bitField bs 22 4)
    plate := BitVec.ofNat 16 (bitField bs 26 16)
    count := BitVec.ofNat 8 (bitField bs 42 8)
    lastZone := BitVec.ofNat 6 (bitField bs 50 6)
    lastValid := decide (bitField bs 56 1 = 1) }

/-! ## Manchester coding (R135) -/

/-- The drive of a run of bits by half-bits: a 1 positive then negative, a 0 negative then positive. -/
def manchester (bs : List Bool) : List Bool := bs.flatMap fun b => [b, !b]

/-- The bits of a run of half-bits by the direction of each middle transition; none where a bit has no middle
transition. -/
def decodeHalves : List Bool → List (Option Bool)
  | first :: second :: rest => (if first = second then none else some first) :: decodeHalves rest
  | [_] => [none]
  | [] => []

/-- The bits of a burst; one that has no middle transition stands as 0. -/
def Burst.bits (b : Burst) : List Bool := (decodeHalves b.halves).map (·.getD false)

/-- Some bit of a burst has no middle transition: a coding violation. -/
def Burst.violation (b : Burst) : Bool := (decodeHalves b.halves).any (·.isNone)

/-- A burst lasted more than 200 µs and so set LINE_STUCK (R141, R146). -/
def Burst.overStuck (b : Burst) : Bool := decide (Config.stuckHalves < b.halves.length)

/-- Good form: preamble, no coding violation, 73 bits, and the check code (R141). -/
def Burst.goodForm (b : Burst) : Bool :=
  let bits := Burst.bits b
  decide (bits.take 8 = Config.preamble) && !Burst.violation b && decide (bits.length = 73)
    && decide (checkCode ((bits.drop 8).take 49) = BitVec.ofNat 16 (bitField bits 57 16))

/-! ## Configuration words (R191, R212) -/

/-- A field value brought into its range (R191). -/
def clampTo (lo hi v : Nat) : Nat := max lo (min hi v)

/-- `len` bits of a configuration word from bit `lo`. -/
def cfgField (w : Half) (lo len : Nat) : Nat := (w.extractLsb' lo len).toNat

/-- Fields as coded: word, lowest bit, width, range (R191, R212). Fields whose every code lies in range
(StationOffset, Eovr, the enables, RecoverySteps, the attention mask) are not listed. -/
def cfgRanges : List (Nat × Nat × Nat × Nat × Nat) :=
  [ (1, 0, 5, 1, 16), (2, 0, 3, 1, 4), (2, 4, 4, 1, 15), (2, 8, 4, 1, 8), (2, 12, 4, 1, 8),
    (4, 0, 16, 0, 1023), (5, 0, 16, 0, 1023), (6, 0, 16, 0, 1023), (7, 0, 8, 8, 128), (7, 8, 8, 1, 255),
    (8, 0, 8, 1, 255), (8, 8, 4, 1, 7), (8, 12, 4, 1, 7), (9, 0, 8, 10, 255), (9, 8, 8, 5, 100),
    (10, 0, 8, 1, 255), (10, 8, 4, 1, 7), (11, 0, 16, 1, 1000), (12, 0, 16, 1, 1000), (13, 0, 16, 1, 65535),
    (14, 0, 8, 1, 255) ]

/-- Some field lies outside its range (R191). -/
def someFieldClamped (w : Nat → Half) : Bool :=
  cfgRanges.any fun (k, lo, len, least, most) =>
    let v := cfgField (w k) lo len
    decide (clampTo least most v ≠ v)

/-- The clamped thresholds are in order (R54). -/
def thresholdsInOrder (w : Nat → Half) : Bool :=
  let ts := clampTo 0 1023 (cfgField (w 4) 0 16)
  let gt := clampTo 0 1023 (cfgField (w 5) 0 16)
  let tOpen := clampTo 0 1023 (cfgField (w 6) 0 16)
  decide (ts < gt) && decide (gt < tOpen)

/-- CONFIG_CLAMPED is due (R54, R191). -/
def configClamped (w : Nat → Half) : Bool := someFieldClamped w || !thresholdsInOrder w

/-- The cell parameters from configuration words 1 to 15 (R54, R191, R212). -/
def paramsOfWords (w : Nat → Half) : Params :=
  let c (k lo len least most : Nat) : Nat := clampTo least most (cfgField (w k) lo len)
  { cellSize := c 1 0 5 1 16
    stationOffset := cfgField (w 1) 8 4
    jetLimit := c 2 0 3 1 4
    dropLimit := c 2 4 4 1 15
    zx := c 2 8 4 1 8
    zy := c 2 12 4 1 8
    eovr := cfgField (w 3) 0 4
    enThread := (w 3).getLsbD 4
    enRelease := (w 3).getLsbD 5
    enRecovery := (w 3).getLsbD 6
    recoverySteps := cfgField (w 3) 8 8
    ts := if thresholdsInOrder w then c 4 0 16 0 1023 else Config.factoryTs
    gt := if thresholdsInOrder w then c 5 0 16 0 1023 else Config.factoryGt
    tOpen := if thresholdsInOrder w then c 6 0 16 0 1023 else Config.factoryTo
    retractMax := c 7 0 8 8 128
    retractRate := c 7 8 8 1 255
    shortHold := c 8 0 8 1 255
    threadTries := c 8 8 4 1 7
    kerfTries := c 8 12 4 1 7
    annealTime := c 9 0 8 10 255
    feedTimeout := c 9 8 8 5 100
    releaseWait := c 10 0 8 1 255
    releaseAttempts := c 10 8 4 1 7
    xmax := c 11 0 16 1 1000
    ymax := c 12 0 16 1 1000
    rapidRate := c 13 0 16 1 65535
    threadAdmitWarn := c 14 0 8 1 255
    attnMask := w 15 }

/-- Configuration word `k` in the layout of R212 with the values in use; word 1 holds the station number and the strap
levels too. -/
def configWord (p : Params) (station : Nat) (strap : BitVec 4) (k : Nat) : Word :=
  match k with
  | 1 => pack [(0, 5, p.cellSize), (8, 4, p.stationOffset), (16, 4, station), (20, 4, strap.toNat)]
  | 2 => pack [(0, 3, p.jetLimit), (4, 4, p.dropLimit), (8, 4, p.zx), (12, 4, p.zy)]
  | 3 => pack [(0, 4, p.eovr), (4, 1, p.enThread.toNat), (5, 1, p.enRelease.toNat), (6, 1, p.enRecovery.toNat),
               (8, 8, p.recoverySteps)]
  | 4 => pack [(0, 16, p.ts)]
  | 5 => pack [(0, 16, p.gt)]
  | 6 => pack [(0, 16, p.tOpen)]
  | 7 => pack [(0, 8, p.retractMax), (8, 8, p.retractRate)]
  | 8 => pack [(0, 8, p.shortHold), (8, 4, p.threadTries), (12, 4, p.kerfTries)]
  | 9 => pack [(0, 8, p.annealTime), (8, 8, p.feedTimeout)]
  | 10 => pack [(0, 8, p.releaseWait), (8, 4, p.releaseAttempts)]
  | 11 => pack [(0, 16, p.xmax)]
  | 12 => pack [(0, 16, p.ymax)]
  | 13 => pack [(0, 16, p.rapidRate)]
  | 14 => pack [(0, 8, p.threadAdmitWarn)]
  | 15 => pack [(0, 16, p.attnMask.toNat)]
  | _ => 0#32

/-! ## Order words (R202, R213) -/

def orderArm : Nat := 0x01
def orderStart : Nat := 0x02
def orderHalt : Nat := 0x03
def orderResume : Nat := 0x04
def orderSkipPart : Nat := 0x05
def orderAbort : Nat := 0x06
def orderSetPositionX : Nat := 0x10
def orderSetPositionY : Nat := 0x11
def orderNewPlate : Nat := 0x20
def orderWriteConfig : Nat := 0x21
def orderClearFlags : Nat := 0x30
def orderSetAttnMask : Nat := 0x31
def orderClearCounters : Nat := 0x32

/-- The codes that name an order (R213). -/
def definedOrders : List Nat :=
  [orderArm, orderStart, orderHalt, orderResume, orderSkipPart, orderAbort, orderSetPositionX, orderSetPositionY,
   orderNewPlate, orderWriteConfig, orderClearFlags, orderSetAttnMask, orderClearCounters]

/-- The order code of an order word, bits 31 to 24. -/
def orderCode (w : Word) : Nat := field w 24 8

/-- The argument, bits 23 to 0, as a number, as a coordinate, and its low half. -/
def orderArg (w : Word) : Nat := field w 0 24
def orderCoord (w : Word) : Int := signedField w 0 24
def orderHalf (w : Word) : Half := w.extractLsb' 0 16

end Sys2Proof.Machine
end

