-- ==== Sys2Proof/Machine/Stepping.lean ====
section
/-! DEFINITION. Path stepping on positions: lines, arcs, the derived length of a segment (R26 to R29), one issued
step (R22, R24) and the progress counters (R39, R41). -/

namespace Sys2Proof.Machine

/-! ## The stepping rules -/

/-- The next step of the line S to E from a position on it; none at E (R26, R27). `D` is derived from the
steps taken on each axis. -/
def lineStep (sx sy ex ey px py : Int) : Option PathStep :=
  let n := (ex - sx).natAbs
  let m := (ey - sy).natAbs
  let xTaken := (px - sx).natAbs
  let yTaken := (py - sy).natAbs
  let d : Int := (xTaken * m : Nat) - (yTaken * n : Nat)
  if xTaken < n ∧ (d ≤ 0 ∨ ¬ yTaken < m) then some ⟨.x, decide (sx < ex)⟩
  else if yTaken < m then some ⟨.y, decide (sy < ey)⟩
  else none

/-- A coordinate moved by one in a direction. -/
def moveBy (pos : Bool) (c : Int) : Int := if pos then c + 1 else c - 1

/-- |u² + v² − r²| (R28). -/
def arcError (u v rr : Int) : Nat := (u * u + v * v - rr).natAbs

/-- The next step of the arc about C from S to E; none at E (R28, R29). -/
def arcStep (cx cy sx sy ex ey px py : Int) : Option PathStep :=
  let us := sx - cx
  let vs := sy - cy
  let rr := us * us + vs * vs
  let u := px - cx
  let v := py - cy
  let uUp := decide (sx < ex)
  let vUp := decide (sy < ey)
  if px = ex then (if py = ey then none else some ⟨.y, vUp⟩)
  else if py = ey then some ⟨.x, uUp⟩
  else if arcError (moveBy uUp u) v rr ≤ arcError u (moveBy vUp v) rr then some ⟨.x, uUp⟩
  else some ⟨.y, vUp⟩

/-- The next step of a segment from its start point, by its kind; a segment of undefined kind has none. -/
def segmentStep (g : SegEntry) (start : Int × Int) (px py : Int) : Option PathStep :=
  if g.kind = segLine then lineStep start.1 start.2 g.endX g.endY px py
  else if g.kind = segArcCw ∨ g.kind = segArcCcw then
    arcStep g.cenX g.cenY start.1 start.2 g.endX g.endY px py
  else none

/-- A position after one step, with no limit applied. -/
def stepFrom (st : PathStep) (p : Int × Int) : Int × Int :=
  match st.axis with
  | .x => (moveBy st.pos p.1, p.2)
  | .y => (p.1, moveBy st.pos p.2)

/-- The position `o` steps along a segment, traced on a working copy (R17, R21). -/
def traceSegment (g : SegEntry) (start : Int × Int) : Nat → Int × Int → Int × Int
  | 0, p => p
  | o + 1, p =>
    match segmentStep g start p.1 p.2 with
    | some st => traceSegment g start o (stepFrom st p)
    | none => p

/-- |Δx| + |Δy| (R4, R14). -/
def manhattan (a b : Int × Int) : Nat := (b.1 - a.1).natAbs + (b.2 - a.2).natAbs

/-! ## One issued step -/

/-- A coordinate stays at its limit when a step would carry it past (R22). -/
def clampCoord (c : Int) : Int := max (-Config.coordLimit) (min Config.coordLimit c)

/-- Issue one step: the direction line, the pulse and the position register (R22, R24). -/
def issueStep (st : PathStep) (pe : PathEngine) : PathEngine :=
  match st.axis with
  | .x => { pe with dirX := st.pos, pulsesX := pe.pulsesX + 1, posX := clampCoord (moveBy st.pos pe.posX) }
  | .y => { pe with dirY := st.pos, pulsesY := pe.pulsesY + 1, posY := clampCoord (moveBy st.pos pe.posY) }

/-- The step that undoes a step (R41). -/
def PathStep.reverse (st : PathStep) : PathStep := { st with pos := !st.pos }

/-! ## Progress -/

/-- The part entry of the pass part. -/
def passEntry (s : State) : PartEntry := s.js.part s.pe.passPart

/-- Progress moves on by one forward cut step; `len` is the current segment's length (R39). -/
def advanceProgress (len : Nat) (pe : PathEngine) : PathEngine :=
  if pe.off + 1 = len then { pe with seg := pe.seg + 1, off := 0 } else { pe with off := pe.off + 1 }

/-- Progress moves back by one retract step; `prevLen` is the length of the segment before (R41). -/
def retreatProgress (prevLen : Nat) (pe : PathEngine) : PathEngine :=
  if 0 < pe.off then { pe with off := pe.off - 1 } else { pe with seg := pe.seg - 1, off := prevLen - 1 }

/-- The forward step due at the current progress of the loaded pass (R26 to R29, R36). -/
def nextCutStep (s : State) : Option PathStep :=
  let e := passEntry s
  segmentStep (s.js.segment (e.firstSeg + s.pe.seg)) (s.js.segStart e s.pe.seg) s.pe.posX s.pe.posY

/-- The first of a part's marks, from relative index `from'`, whose fired flag is clear (R34, R35). -/
def firstUnfired (fired : BitVec 256) (e : PartEntry) (from' : Nat) : Option Nat :=
  (List.range e.markCount).find? fun m => decide (from' ≤ m) && !fired.getLsbD (e.firstMark + m)

/-- The fired flags with the marks of a part through relative index `m` set (R35). -/
def fireThrough (fired : BitVec 256) (e : PartEntry) (m : Nat) : BitVec 256 :=
  (List.range (m + 1)).foldl (fun f j => f ||| (1#256 <<< (e.firstMark + j))) fired

end Sys2Proof.Machine
end

