-- ==== Sys2Proof/Machine/Governor.lean ====
section
/-! DEFINITION. The values formed from the state: the filtered gap, class and feeds (R52 to R57), the override
causes, the active level and the generator's outputs (R75 to R81), and the threader's lines (R86). -/

namespace Sys2Proof.Machine

/-! ## Zones -/

/-- Neighbouring zones on a grid of `zx` columns: columns and rows differ by at most 1 (R75, R169). -/
def neighbours (zx a b : Nat) : Bool :=
  decide (a % zx ≤ b % zx + 1) && decide (b % zx ≤ a % zx + 1)
    && decide (a / zx ≤ b / zx + 1) && decide (b / zx ≤ a / zx + 1)

/-! ## Override causes and level -/

/-- An entry FRESH or STALE. -/
def Peer.heardLately (p : Peer) : Bool := decide (p.live = .fresh ∨ p.live = .stale)

/-- A live, non-foreign peer announcing a head state in a zone neighbouring `zone`. -/
def Peer.near (zx zone : Nat) (head : HeadState) (p : Peer) : Bool :=
  p.heardLately && !p.isForeign && decide (p.head.toNat = headCode head) && neighbours zx p.zone.toNat zone

def passLoaded (s : State) : Bool := decide (s.pe.engine = .pass)

/-- Some peer near the pass part announces `head` while a pass is loaded (R75). -/
def peerCause (head : HeadState) (s : State) : Bool :=
  passLoaded s && s.pva.peers.any fun e => e.2.near s.cfg.zx (passEntry s).zone head

def peerThreadNear (s : State) : Bool := peerCause .threading s
def peerReleaseNear (s : State) : Bool := peerCause .releasing s
/-- R76. -/
def recoveryHolds (s : State) : Bool := decide (0 < s.eg.recovery)

/-- An enabled cause holds (R78). -/
def overridden (s : State) : Bool :=
  (s.cfg.enThread && peerThreadNear s) || (s.cfg.enRelease && peerReleaseNear s)
    || (s.cfg.enRecovery && recoveryHolds s)

/-- The active level (R78). -/
def eact (s : State) : Nat := if overridden s then min s.eg.primary s.cfg.eovr else s.eg.primary

/-! ## Pulses -/

/-- A mode in which samples are taken and pulses may run (R51, R80). -/
def GapMode.cutting : GapMode → Bool
  | .feeding | .retracting | .replaying | .stalledTiming | .stalledStuck => true
  | .idle | .wireWait => false

/-- The pulse window (R80). -/
def pulseWindow (s : State) : Bool := passLoaded s && s.gc.mode.cutting && !s.gc.halted

/-- PULSE_EN and E[3:0] (R81). -/
def pulseEn (s : State) : Bool := pulseWindow s && decide (0 < eact s)
def energyLines (s : State) : Nat := if pulseEn s then eact s else 0

/-! ## The gap -/

/-- Gf (R52). -/
def gapFiltered (gc : GapControl) : Nat := gc.acc / 8

/-- The class of a filtered gap (R55). -/
def classOf (c : Params) (gf : Nat) : GapClass :=
  if gf < c.ts then .short else if gf ≤ c.tOpen then .normal else .openGap

/-- The accumulator takes a value, and the class is formed afresh (R55). -/
def setAccumulator (c : Params) (a : Nat) (gc : GapControl) : GapControl :=
  { gc with acc := a, cls := classOf c (a / 8) }

/-- One sample through the filter (R52). -/
def filterSample (c : Params) (v : Nat) (gc : GapControl) : GapControl :=
  setAccumulator c (gc.acc - gc.acc / 8 + v) gc

/-- The approach value 8·To (R53). -/
def approach (c : Params) (gc : GapControl) : GapControl := setAccumulator c (8 * c.tOpen) gc

/-- The unscaled feed F (R56). -/
def unscaledFeed (s : State) : Nat :=
  match s.gc.cls with
  | .short => 0
  | .openGap => s.gc.limit
  | .normal =>
    if s.cfg.gt ≤ gapFiltered s.gc then s.gc.limit
    else s.gc.limit * (gapFiltered s.gc - s.cfg.ts) / (s.cfg.gt - s.cfg.ts)

/-- The effective feed Feff (R57); with no primary level, as after a reset, it is 0 (R72). -/
def effectiveFeed (s : State) : Nat := unscaledFeed s * eact s / s.eg.primary

/-! ## The threader's lines -/

/-- CUT, ANNEAL, JET, FEED, WITHDRAW, TENSION by stage (R86). -/
def lineCut (st : Stage) : Bool := decide (st = .sever ∨ st = .unthread)
def lineAnneal (st : Stage) : Bool := decide (st = .anneal)
def lineJet (st : Stage) : Bool := decide (st = .jet ∨ st = .feed ∨ st = .capture)
def lineFeed (st : Stage) : Bool := decide (st = .feed)
def lineWithdraw (st : Stage) : Bool := decide (st = .withdraw)
def lineTension (st : Stage) : Bool := decide (st = .capture ∨ st = .threaded)

/-- A stage of the threading in which HALT pauses it (R100). -/
def Stage.threading : Stage → Bool
  | .sever | .anneal | .jet | .feed | .capture | .withdraw => true
  | .idle | .threaded | .unthread | .paused => false

end Sys2Proof.Machine
end

