-- ==== Sys2Proof/Machine/RecordQueue.lean ====
section
/-! DEFINITION. The pending record queue and the update in flight (R179 to R184), and the feeding of NEW_PLATE
(R189). -/

namespace Sys2Proof.Machine

/-- The queue holds an entry for a word (R183). -/
def RecordStore.hasEntry (r : RecordStore) (word : Nat) : Bool := r.queue.any fun e => decide (e.word = word)

/-- The queued value of a word, if any (R18). -/
def RecordStore.queued (r : RecordStore) (word : Nat) : Option Half :=
  (r.queue.find? fun e => decide (e.word = word)).map (·.value)

/-- An update for a word can join (R183). -/
def RecordStore.canJoin (r : RecordStore) (word : Nat) : Bool :=
  r.hasEntry word || decide (r.queue.length < Config.queueCapacity)

/-- The head entry's update begins at instant `now`: its erase starts, and the word reads 0 from there (R178,
R179). With no entry, no update is in flight. -/
def RecordStore.beginUpdate (now : Nat) (r : RecordStore) : RecordStore :=
  match r.queue with
  | [] => { r with stage := .none, retried := false, timer := none }
  | e :: _ =>
    { r with nv := Memory.write 0#16 e.word 0#16 r.nv, stage := .erase, writing := e.value, retried := false,
             timer := some now }

/-- An entry with a new value and mark for a word (R183). -/
def replaceValue (word : Nat) (v : Half) (mark : Bool) (e : QueueEntry) : QueueEntry :=
  if e.word = word then { e with value := v, mark := mark } else e

/-- An update joins the queue: in place, at the tail, or not at all (R183). -/
def RecordStore.join (now word : Nat) (v : Half) (mark : Bool) (r : RecordStore) : RecordStore :=
  if r.hasEntry word then { r with queue := r.queue.map (replaceValue word v mark) }
  else if r.queue.length < Config.queueCapacity then
    if r.queue = [] then { r with queue := [⟨word, v, mark⟩] }.beginUpdate now
    else { r with queue := r.queue ++ [⟨word, v, mark⟩] }
  else r

/-- Word and value of NEW_PLATE's update number `k` (R189). -/
def newPlateUpdate (arg : Half) (k : Nat) : Nat × Half :=
  if k = 0 then (Config.plateWord, arg) else (k - 1, recordWord .uncut 0)

/-- NEW_PLATE offers its next update; nothing if none is left or it cannot join (R189). -/
def RecordStore.feedOne (now : Nat) (r : RecordStore) : RecordStore :=
  match r.feed with
  | none => r
  | some k =>
    if k < Config.newPlateUpdates ∧ r.canJoin (newPlateUpdate r.plateArg k).1 = true then
      { r.join now (newPlateUpdate r.plateArg k).1 (newPlateUpdate r.plateArg k).2 true with feed := some (k + 1) }
    else r

/-- Feeding goes on until an update cannot join; `n` bounds the offers (R189). -/
def RecordStore.feedAll (now : Nat) : Nat → RecordStore → RecordStore
  | 0, r => r
  | n + 1, r => RecordStore.feedAll now n (r.feedOne now)

/-- NEW_PLATE is running, which the host sees as RECORDS_BUSY (R188). -/
def RecordStore.busy (r : RecordStore) : Bool := r.feed.isSome

/-- NEW_PLATE ends when every update has joined and no marked entry is left (R189). -/
def RecordStore.endNewPlate (r : RecordStore) : RecordStore :=
  if r.feed = some Config.newPlateUpdates ∧ (r.queue.any (·.mark)) = false then { r with feed := none } else r

/-- The head entry leaves and the next one's update begins (R179). -/
def RecordStore.removeHead (now : Nat) (r : RecordStore) : RecordStore :=
  { r with queue := r.queue.tail }.beginUpdate now

/-- The queue, the update in flight and a running NEW_PLATE are lost at a reset or a loss of power; the words
stand as the array holds them, an erased one reading 0 (R185, R194). -/
def RecordStore.lose (r : RecordStore) : RecordStore := { RecordStore.reset with nv := r.nv }

end Sys2Proof.Machine
end

