-- ==== Sys2Proof/Machine/Admission.lean ====
section
/-! DEFINITION. The peer table, the tally and budget, and the own intent (R153 to R175): what Peer View and
Admission does and how it answers. -/

namespace Sys2Proof.Machine

/-! ## Entries -/

/-- Entry of a station (R153). -/
def PeerView.peer (v : PeerView) (n : Nat) : Peer := Memory.read Peer.never v.peers n

/-- Liveness by missed rounds (R155). -/
def livenessOf (missed : Nat) : Liveness :=
  if missed ≤ 2 then .fresh else if missed ≤ 15 then .stale else .absent

/-- One own-slot arrival over one entry (R155). -/
def Peer.aged (p : Peer) : Peer :=
  if p.live = .never then p
  else if p.heard then { p with missed := 0, live := .fresh, heard := false }
  else { p with missed := saturate 16 (p.missed + 1), live := livenessOf (saturate 16 (p.missed + 1)) }

/-- One own-slot arrival over the table (R155). -/
def agePeers (v : PeerView) : PeerView := { v with peers := v.peers.map fun e => (e.1, e.2.aged) }

/-- Δ of R158. -/
def releaseStep (n l : BitVec 8) : Nat := (n - l).toNat

/-- The counting of an entry starts afresh at an announced count (R157). -/
def Peer.recount (n : BitVec 8) (p : Peer) : Peer := { p with cumulative := n.toNat, attributed := 0, last := n }

/-- A first hearing (R157). -/
def Peer.unheardOf (p : Peer) : Bool := decide (p.live = .never ∨ p.live = .absent)

/-- The frame is counted by its step: a non-foreign peer before and after, not a first hearing (R158). -/
def countsByStep (announced : Half) (f : Frame) (p : Peer) : Bool :=
  !p.unheardOf && !p.isForeign && decide (f.plate = announced)

/-- A step forward with its zone (R158). -/
def attributes (announced : Half) (f : Frame) (p : Peer) : Bool :=
  countsByStep announced f p && decide (1 ≤ releaseStep f.count p.last) && decide (releaseStep f.count p.last ≤ 127)
    && f.lastValid

/-- A count that fell back (R158). -/
def fellBack (announced : Half) (f : Frame) (p : Peer) : Bool :=
  countsByStep announced f p && decide (128 ≤ releaseStep f.count p.last)

/-- The release fields of an entry after a valid frame (R156 to R159). -/
def Peer.releases (announced : Half) (f : Frame) (p : Peer) : Peer :=
  if f.plate ≠ announced then { p with last := f.count }
  else if p.unheardOf || p.isForeign then p.recount f.count
  else if releaseStep f.count p.last ≤ 127 then
    let cum := saturate 65535 (p.cumulative + releaseStep f.count p.last)
    { p with cumulative := cum
             attributed := if attributes announced f p && decide (p.attributed < cum) then p.attributed + 1
                           else p.attributed
             last := f.count }
  else { p with last := f.count }

/-- An entry after a valid frame, in the order of R154. -/
def Peer.afterFrame (announced : Half) (f : Frame) (p : Peer) : Peer :=
  { p.releases announced f with
      head := f.head, zone := f.zone, age := f.age, plate := f.plate
      isForeign := decide (f.plate ≠ announced), live := .fresh, missed := 0, heard := true }

/-- The frame makes the peer foreign: clear to set, or a first hearing with a foreign plate (R156). -/
def turnsForeign (announced : Half) (f : Frame) (p : Peer) : Bool :=
  decide (f.plate ≠ announced) && (p.unheardOf || !p.isForeign)

/-- One more drop in a zone (R160). -/
def addTally (zone : Nat) (v : PeerView) : PeerView :=
  { v with tally := Memory.write 0 zone (saturate 255 (Memory.read 0 v.tally zone + 1)) v.tally }

/-- A valid frame over the view: entry, tally and error counter (R154, R158). -/
def PeerView.takeFrame (announced : Half) (f : Frame) (v : PeerView) : PeerView :=
  let p := v.peer f.station.toNat
  let v1 := { v with peers := Memory.write Peer.never f.station.toNat (p.afterFrame announced f) v.peers
                     errors := if fellBack announced f p then countUp v.errors else v.errors }
  if attributes announced f p then addTally f.lastZone.toNat v1 else v1

/-- The unattributed total (R162). -/
def unattributed (v : PeerView) : Nat :=
  (v.peers.map fun e =>
    if e.2.live = .never ∨ e.2.isForeign = true then 0 else e.2.cumulative - e.2.attributed).sum

/-- The budget of a zone passes (R163). -/
def budgetPasses (s : State) (zone : Nat) : Bool :=
  decide (Memory.read 0 s.pva.tally zone + unattributed s.pva < s.cfg.dropLimit)

/-! ## NEW_PLATE and rebuilds -/

/-- An entry when the announced identity changes (R156, R174). -/
def Peer.newIdentity (announced : Half) (p : Peer) : Peer :=
  if p.live = .never then p
  else if p.plate ≠ announced then { p with isForeign := true }
  else if p.isForeign then { p.recount p.last with isForeign := false }
  else p

/-- Some entry turns foreign when the announced identity changes (R156). -/
def somePeerTurnsForeign (announced : Half) (v : PeerView) : Bool :=
  v.peers.any fun e => decide (e.2.live ≠ .never) && decide (e.2.plate ≠ announced) && !e.2.isForeign

/-- The tally from the part records of the array (R161, R193). -/
def rebuiltTally (r : RecordStore) : Memory Nat :=
  (List.range 64).foldl
    (fun t p => if recordState (r.nvWord p) = .released then
        Memory.write 0 (recordZone (r.nvWord p)) (saturate 255 (Memory.read 0 t (recordZone (r.nvWord p)) + 1)) t
      else t) []

/-- The number of part records that read RELEASED (R193). -/
def releasedRecords (r : RecordStore) : Nat :=
  (List.range 64).countP fun p => decide (recordState (r.nvWord p) = .released)

/-! ## The own intent -/

/-- An intent begins: at instant `now` (R164). -/
def beginIntent (kind : IntentKind) (s : State) : State :=
  s.setPva { s.pva with intent :=
    { kind := kind, ageToSend := 0, lastAge := none, firstAt := none
      warnTimer := if kind = .thread then some s.now else none } }

/-- An intent ends, and a frame already on the line no longer announces it (R140, R166, log 30). -/
def endIntent (s : State) : State :=
  (s.setPva { s.pva with intent := Intent.empty }).setCli
    { s.cli with sending := s.cli.sending.map fun x => { x with live := false } }

/-- An announcement of the intent with a carried age (R165). -/
def announceIntent (age : Nat) (s : State) : State :=
  s.setPva { s.pva with intent :=
    { s.pva.intent with
        lastAge := some age
        firstAt := if s.pva.intent.lastAge = none then some s.now else s.pva.intent.firstAt
        ageToSend := saturate 15 (age + 1) } }

/-- The zone the Part Sequencer supplies (R113). -/
def announcedZone (s : State) : Nat :=
  match s.ps.current with
  | some p => (s.js.part p).zone
  | none => s.ps.takenZone

/-- A peer has precedence over the own station (R167). -/
def precedes (ownStation ownAge : Nat) (station : Nat) (p : Peer) : Bool :=
  decide (p.live = .stale)
    || (decide (p.live = .fresh)
        && (decide (ownAge < p.age.toNat) || (decide (p.age.toNat = ownAge) && decide (station < ownStation))))

/-- A peer counted against the jet limit (R169). -/
def countsForJet (ownStation ownAge : Nat) (e : Nat × Peer) : Bool :=
  e.2.heardLately
    && (decide (e.2.head.toNat = headCode .threading)
        || (decide (e.2.head.toNat = headCode .waitThread) && precedes ownStation ownAge e.1 e.2))

inductive Verdict where
  | grant | wait | denied | expired
  deriving DecidableEq, Repr

/-- The thread decision over the entries considered (R169). -/
def threadDecision (s : State) (ownAge : Nat) (peers : Memory Peer) : Verdict :=
  if peers.countP (countsForJet s.cli.station ownAge) < s.cfg.jetLimit
      ∧ (peers.any fun e => e.2.near s.cfg.zx (announcedZone s) .releasing) = false then .grant
  else .wait

/-- ReleaseWait has run out (R171). -/
def releaseWaitOver (s : State) : Bool :=
  match s.pva.intent.firstAt with
  | none => false
  | some t => decide (t + s.cfg.releaseWait * 100 * Config.ticksPerMs ≤ s.now)

/-- A neighbour stands in the way of a release (R170, case 2). -/
def blocksRelease (s : State) (ownAge : Nat) (e : Nat × Peer) : Bool :=
  e.2.near s.cfg.zx (announcedZone s) .threading || e.2.near s.cfg.zx (announcedZone s) .releasing
    || (e.2.near s.cfg.zx (announcedZone s) .waitRelease && precedes s.cli.station ownAge e.1 e.2)

/-- The release decision over the entries considered (R170). -/
def releaseDecision (s : State) (ownAge : Nat) (peers : Memory Peer) : Verdict :=
  if budgetPasses s (announcedZone s) = false then .denied
  else if peers.any (blocksRelease s ownAge) then (if releaseWaitOver s then .expired else .wait)
  else .grant

/-- The peer link condition (R148). -/
def linkCondition (c : CellLine) : LinkCondition :=
  match c.mode with
  | .solo => .solo
  | .noSlot => .noSlot
  | .off | .listen | .active | .backoff | .stuck =>
    if c.quiet = Config.quietLimit then .lost else .good

/-- The answer formed at an own-slot arrival; none unless an announced intent is held (R168). -/
def slotAnswer (s : State) : Option Verdict :=
  match s.pva.intent.lastAge with
  | none => none
  | some age =>
    match s.pva.intent.kind, linkCondition s.cli with
    | .none, _ => none
    | .thread, .good => some (threadDecision s age s.pva.peers)
    | .thread, .solo => some (threadDecision s age [])
    | .thread, .lost => some .wait
    | .thread, .noSlot => some .wait
    | .release, .good => some (releaseDecision s age s.pva.peers)
    | .release, .solo => some (releaseDecision s age [])
    | .release, .lost | .release, .noSlot =>
      some (if budgetPasses s (announcedZone s) = false then .denied
            else if releaseWaitOver s then .expired else .wait)

end Sys2Proof.Machine
end

