-- ==== Sys2Proof/Machine/Sequence.lean ====
section
/-! DEFINITION. The Part Sequencer's walk: record updates and record waits (R115 to R117), waiting states (R114),
traverse requests (R30), pass loads (R34, R35), unthread requests (R104), part boundaries (R131), the two phases
(R118, R123 to R125) and their completion (R112). -/

namespace Sys2Proof.Machine

def jobRunning (s : State) : Bool := decide (s.ps.job = .running)

/-- The head state shown, which is PARKED while the job is HALTED (R113). -/
def showHead (h : HeadState) (s : State) : State :=
  if s.ps.job = .halted then s else s.setPs { s.ps with head := h }

def setActivity (a : Activity) (s : State) : State := s.setPs { s.ps with activity := a }

/-! ## Record updates -/

/-- An update of the Part Sequencer joins the pending record queue (R115, R183). -/
def queueUpdate (u : PartUpdate) (s : State) : State :=
  s.setPrs (s.prs.join s.now u.part (recordWord u.state u.zone) false)

/-- PART_DONE and PART_HELD (R117). -/
def resultFlags (r : RecState) (flags : Half) : Half :=
  match r with
  | .held => withFlag (withFlag flags flagPartDone) flagPartHeld
  | .tabbed | .released | .abandoned => withFlag flags flagPartDone
  | .unknown | .uncut | .cutting => flags

/-- The counts of a released part: own release count, tally, last-release zone (R122, steps 2 to 4). -/
def countRelease (zone : Nat) (s : State) : State :=
  (s.setPs { s.ps with ownCount := s.ps.ownCount + 1, lastRelease := some zone }).setPva (addTally zone s.pva)

/-- What the Part Sequencer notes when an update has joined: held state (R115), flags (R117), the counts of a
release (R122), and the deferred list (R121). -/
def noteUpdate (u : PartUpdate) (s : State) : State :=
  let s1 := s.setPs { s.ps with
    held := Memory.write Held.dropped u.part (.state u.state) s.ps.held
    deferred := if u.defer then s.ps.deferred ++ [(u.part, 1)] else s.ps.deferred }
  let s2 := s1.setJp { s1.jp with flags := resultFlags u.state s1.jp.flags }
  if u.state = .released then countRelease u.zone s2 else s2

/-- The current part's update to a state. -/
def updateOf (p : Nat) (r : RecState) (s : State) : PartUpdate :=
  { part := p, state := r, zone := (s.js.part p).zone, defer := false }

/-! ## Waiting states and traverses -/

/-- Enter WAIT_THREAD with a thread intent (R114, R164). -/
def enterWaitThread (p : Purpose) (s : State) : State :=
  beginIntent .thread (s.setPs { s.ps with head := .waitThread, activity := .waitThread p })

/-- Enter WAIT_RELEASE with a release intent (R114, R164). -/
def enterWaitRelease (s : State) : State :=
  beginIntent .release (s.setPs { s.ps with head := .waitRelease, activity := .waitRelease })

/-- Traverse completion: the engine returns to STANDBY and the head waits for the jet (R31, R118, R125). -/
def arrive (p : Purpose) (s : State) : State :=
  enterWaitThread p (s.setPe { s.pe with engine := .standby, traverse := none, stepTimer := none })

/-- Request a traverse to a target; at the target it completes at once (R30, R31). -/
def requestTraverse (target : Int × Int) (p : Purpose) (s : State) : State :=
  if s.pe.posX = target.1 ∧ s.pe.posY = target.2 then arrive p s
  else
    (s.setPe { s.pe with
      engine := .traverse
      traverse := some { sx := s.pe.posX, sy := s.pe.posY, tx := target.1, ty := target.2, moving := true }
      stepTimer := some s.now }).setPs { s.ps with head := .traverse, activity := .traversing p }

/-! ## Pass loads -/

/-- Pass start: the primary level and the recovery count (R73, R77), the feed limit, the stack and the mode (R58,
R60, R71), and the engine in RUN (R34, R35). -/
def startPass (kind : PassKind) (p : Nat) (pe : PathEngine) (s : State) : State :=
  let e := s.js.part p
  let s1 := s.setPe { pe with
    engine := .pass, passPart := p, passKind := kind, sub := some .run, remembered := none, awaiting := false
    stepTimer := some s.now }
  let s2 := s1.setEg { primary := e.eprim, recovery := 0 }
  s2.setGc { s2.gc with mode := .feeding, halted := false, asked := false, limit := e.fmax, redo := []
                        stepTimer := none, stallTimer := none }

/-- Load the rough pass over the current part; the head shows CUTTING (R34, R119). -/
def loadRoughPass (s : State) : State :=
  match s.ps.current with
  | none => s
  | some p =>
    let s1 := startPass .rough p
      { s.pe with seg := 0, off := 0, markPtr := firstUnfired s.pe.fired (s.js.part p) 0 } s
    s1.setPs { s1.ps with head := .cutting, activity := .passing }

/-- Load the release pass over the current part; the head shows RELEASING (R35, R114). -/
def loadReleasePass (s : State) : State :=
  match s.ps.current with
  | none => s
  | some p =>
    let e := s.js.part p
    match s.js.holdMark e with
    | none => s
    | some h =>
      let m := s.js.mark (e.firstMark + h)
      let fired := fireThrough s.pe.fired e h
      let s1 := startPass .release p
        { s.pe with seg := m.relSeg, off := m.offset, fired := fired
                    markPtr := firstUnfired fired e (h + 1) } s
      s1.setPs { s1.ps with head := .releasing, activity := .passing }

/-! ## The walk of the phases -/

/-- The lowest part from index `scan` on that meets a test. -/
def findPart (s : State) (ok : Nat → Bool) : Option Nat :=
  (List.range s.js.partCount).find? fun p => decide (s.ps.scan ≤ p) && ok p

def heldState (s : State) (p : Nat) : Held := Memory.read Held.dropped s.ps.held p

/-- The next part of the rough phase (R118). -/
def nextUncut (s : State) : Option Nat := findPart s fun p => decide (heldState s p = .state .uncut)

/-- The next part of the release phase's table pass (R123). -/
def nextTabbed (s : State) : Option Nat :=
  findPart s fun p => decide (heldState s p = .state .tabbed)
    && decide ((s.js.part p).policy = policyDrop ∨ (s.js.part p).policy = policyTabRelease)
    && !(s.ps.deferred.any fun d => decide (d.1 = p))

/-- Choose the next part of the release phase: the table pass, then the front of the deferred list, which is
removed (R123). -/
def chooseRelease (s : State) : Option (Nat × Option Nat × State) :=
  match nextTabbed s with
  | some p => some (p, none, s.setPs { s.ps with scan := p + 1 })
  | none =>
    match s.ps.deferred with
    | [] => none
    | (p, n) :: rest => some (p, some n, s.setPs { s.ps with scan := s.js.partCount, deferred := rest })

/-- Halt at a part boundary for a record fault (R131). The finished part stays `current`, as word 0xF00F shows it: a
DESIGN CHOICE (log 44). -/
def haltForRecord (s : State) : State :=
  s.setPs { s.ps with marker := false, job := .halted, reason := .record, head := .parked, activity := .boundary }

/-- The release phase completes: DONE and JOB_DONE, or a halt if the record-fault marker is set (R112, R131). In DONE
no part state is held (R188). -/
def completePhase (s : State) : State :=
  if s.ps.marker then haltForRecord s
  else
    raiseFlag flagJobDone
      ((s.setPs { s.ps with job := .done, phase := .none, current := none, attempts := none, head := .idle
                            activity := .none, held := [] }).setPe { s.pe with engine := .idle })

/-- Head state shown in a record wait that announces no intent and no threading (R116, log 10, log 45). -/
def quietHead (h shown : HeadState) : HeadState :=
  match h with
  | .waitThread | .threading | .waitRelease => shown
  | .idle | .traverse | .cutting | .stalled | .releasing | .unthreading | .parked => h

/-- Enter a record wait: hold the update and what follows it (R116). -/
def enterRecordWait (u : PartUpdate) (k : Follow) (s : State) : State := setActivity (.recordWait u k false) s

/-- Take up a part of the rough phase: traverse to its start hole (R118). -/
def takeRough (p : Nat) (s : State) : State :=
  let e := s.js.part p
  requestTraverse (e.startX, e.startY) .startHole
    (s.setPs { s.ps with current := some p, attempts := none, scan := p + 1, takenZone := e.zone })

/-- Take up a part of the release phase whose budget passed: traverse to its hold position (R125). -/
def takeRelease (p : Nat) (attempts : Option Nat) (s : State) : State :=
  requestTraverse (s.js.holdAt p) .releaseKerf
    (s.setPs { s.ps with current := some p, attempts := attempts, takenZone := (s.js.part p).zone })

/-- Walk on from a part boundary in RUNNING to the next part, the next phase or the end of the job; `n` bounds
the parts passed over by the budget check (R112, R118, R123, R124). A part that the budget check holds does not become
`current`, which in its record wait still names the part finished before it: a DESIGN CHOICE (log 44). The head in that
wait is left as R116 has it, PARKED after an ABORT and its START or at a RESUME from a boundary, UNTHREADING after an
unthread, against what R113 gives those states: a DESIGN CHOICE (log 45). -/
def walk : Nat → State → State
  | 0, s => s
  | n + 1, s =>
    match s.ps.phase with
    | .none => s
    | .rough =>
      match nextUncut s with
      | some p => takeRough p s
      | none => walk n (s.setPs { s.ps with phase := .release, scan := 0 })
    | .release =>
      match chooseRelease s with
      | none => completePhase s
      | some (p, attempts, s1) =>
        if budgetPasses s1 (s1.js.part p).zone then takeRelease p attempts s1
        else
          let s2 := s1.setPs { s1.ps with takenZone := (s1.js.part p).zone }
          let u := updateOf p .held s2
          if s2.prs.canJoin p then
            let s3 := noteUpdate u (queueUpdate u s2)
            if s3.ps.marker then haltForRecord s3 else walk n s3
          else enterRecordWait u .nextPart (s2.setPs { s2.ps with head := quietHead s2.ps.head .idle })

/-- At most 64 parts of the table pass, 64 deferred entries and the change of phase are passed over. -/
def walkBound : Nat := 130

/-- A part boundary: the halt for a record fault, the wait for RESUME, or the walk (R109, R131). While the walk stands
here the finished part stays `current`: a DESIGN CHOICE (log 44). -/
def partBoundary (s : State) : State :=
  if s.ps.marker then haltForRecord s
  else if s.ps.job = .running then walk walkBound s
  else setActivity .boundary s

/-! ## Unthreading and what follows an update -/

/-- The Threading Unit takes an unthread request in THREADED (R104). -/
def unitUnthread (s : State) : State :=
  if s.tu.stage = .threaded then s.setTu { s.tu with stage := .unthread, mode := .none, timer := some s.now } else s

/-- Request an unthread: taken in THREADED, complete at once in IDLE, otherwise not taken (R104). -/
def requestUnthread (s : State) : State :=
  if s.tu.stage = .idle then partBoundary s
  else showHead .unthreading (setActivity .unthreading (unitUnthread s))

/-- What follows an update in its sequence (R116, R119, R128). -/
def followUp (k : Follow) (s : State) : State :=
  match k with
  | .loadRough => loadRoughPass s
  | .threadAgain => enterWaitThread .startHoleAgain s
  | .unthread => requestUnthread s
  | .unthreadRunning => showHead .unthreading (setActivity .unthreading s)
  | .nextPart => partBoundary s

/-- Queue the current part's update and go on, or wait for room; `waitHead` is the head shown in the wait
(R115, R116). -/
def settle (u : PartUpdate) (k : Follow) (waitHead : HeadState) (s : State) : State :=
  if s.prs.canJoin u.part then followUp k (noteUpdate u (queueUpdate u s))
  else enterRecordWait u k (showHead waitHead s)

/-! ## The end of a pass -/

/-- The engine unloads its pass; counters, pointer and flags are kept (R38, R40, R46). -/
def unloadPass (pe : PathEngine) : PathEngine :=
  { pe with engine := .standby, passKind := .none, sub := none, remembered := none, awaiting := false
            stepTimer := none }

/-- The end of a pass at its hold point or contour end, in the engine and in Gap Control (R40, R46, R71). -/
def endPass (s : State) : State :=
  (s.setPe (unloadPass s.pe)).setGc
    { s.gc with mode := .idle, halted := false, asked := false, redo := [], stepTimer := none, stallTimer := none }

/-- The hold event: the part's policy decides (R120, R121). -/
def holdEvent (s : State) : State :=
  match s.ps.current with
  | none => s
  | some p =>
    if (s.js.part p).policy = policyTabHold then settle (updateOf p .held s) .unthread s.ps.head s
    else if (s.js.part p).policy = policyTabRelease then settle (updateOf p .tabbed s) .unthread s.ps.head s
    else if (s.js.part p).policy = policyDrop then enterWaitRelease s
    else s

/-- The contour end of a release pass: the part has dropped (R122). -/
def contourEnd (s : State) : State :=
  match s.ps.current with
  | none => s
  | some p => settle (updateOf p .released s) .unthread s.ps.head s

end Sys2Proof.Machine
end

