-- ==== Sys2Proof/Machine/Timing.lean ====
section
/-! DEFINITION. How long the timers run: step intervals in microseconds, and limits in ticks of the clock
(R25, R62, R65, R66, R85 to R92, R144, R146, R171, R172, R179). The running out of a timer is a row of the table
(log 3). -/

namespace Sys2Proof.Machine

/-- The step interval in µs at a rate in µm/min; none at rate 0, when no step is issued (R25, R57). -/
def stepInterval (rate : Nat) : Option Nat := if rate = 0 then none else some (60000000 / rate)

/-- The traverse interval at RapidRate·10 µm/min (R25). -/
def traverseInterval (c : Params) : Option Nat := stepInterval (c.rapidRate * 10)

/-- The retract interval at RetractRate·100 µm/min (R62). -/
def retractInterval (c : Params) : Option Nat := stepInterval (c.retractRate * 100)

/-- The interval of forward cut steps and of replay steps at Feff (R57, R65). -/
def feedInterval (s : State) : Option Nat := stepInterval (effectiveFeed s)

/-- A number of milliseconds in ticks. -/
def ms (n : Nat) : Nat := n * Config.ticksPerMs

/-- How long a timed stage of a threading may last (R85, R87, R92). -/
def stageLimit (c : Params) (mode : ThreadMode) : Stage → Option Nat
  | .sever => some (ms Config.severMs)
  | .anneal => some (ms (c.annealTime * 10))
  | .jet => some (ms Config.jetMs)
  | .feed => some (ms (if mode = .kerf then c.feedTimeout * 200 else c.feedTimeout * 100))
  | .capture => some (ms Config.captureMs)
  | .withdraw => some (ms Config.withdrawMs)
  | .unthread => some (ms Config.unthreadMs)
  | .idle | .threaded | .paused => none

/-- The stall timer, ShortHold·100 ms (R66). -/
def stallLimit (c : Params) : Nat := ms (c.shortHold * 100)

/-- The thread warning timer, ThreadAdmitWarn seconds (R172). -/
def warnLimit (c : Params) : Nat := ms (c.threadAdmitWarn * 1000)

/-- An erase or a write of the array (R179). -/
def arrayLimit : Nat := ms Config.arrayStageMs

/-- The stuck timer (R146). -/
def stuckLimit : Nat := Config.stuckUs * Config.ticksPerUs

/-- A timer that runs from an instant has reached a limit. -/
def ranOut (now : Nat) (timer : Option Nat) (limit : Nat) : Bool :=
  match timer with
  | none => false
  | some t => decide (t + limit ≤ now)

/-- A round in ticks: CellSize slots (R136). -/
def round (c : Params) : Nat := c.cellSize * Config.slotTicks

end Sys2Proof.Machine
end

