-- ==== Sys2Proof/Machine/Cutting.lean ====
section
/-! DEFINITION. Traversing and cutting: TRAVERSE_STEP, FORWARD_CUT_STEP, GAP_SAMPLE, RETRACT_STEP, REPLAY_STEP,
STALL_TIMER_EXPIRY, and what they share with HALT, RESUME, SKIP_PART, ABORT and a wire break. -/

namespace Sys2Proof.Machine

/-! ## Shared operations -/

/-- The head state of a running pass (R113). -/
def passHead (k : PassKind) : HeadState :=
  match k with
  | .release => .releasing
  | .none | .rough => .cutting

/-- The recovery count at a forward cut step (R76). -/
def recoveryStep (eg : Energy) : Energy := { eg with recovery := eg.recovery - 1 }

/-- A forward cut step in the engine: pulse, position, progress and count (R44, steps 1 to 3). -/
def enginesForward (st : PathStep) (s : State) : PathEngine :=
  let len := s.js.length ((passEntry s).firstSeg + s.pe.seg)
  let pe := advanceProgress len (issueStep st s.pe)
  { pe with count := pe.count + 1, stepTimer := some s.now }

/-- A retract step in the engine (R41, R44). -/
def enginesBack (st : PathStep) (s : State) : PathEngine :=
  let prevLen := s.js.length ((passEntry s).firstSeg + (s.pe.seg - 1))
  let pe := retreatProgress prevLen (issueStep st.reverse s.pe)
  { pe with count := pe.count - 1, stepTimer := some s.now }

/-- A forward cut step joins the log, the oldest of 256 entries leaving (R59). -/
def logStep (st : PathStep) (log : List PathStep) : List PathStep := (st :: log).take Config.logCapacity

/-- The pointer mark, if it lies at the present progress and has not fired (R45). -/
def markDue (s : State) : Option (Nat × MarkEntry) :=
  match s.pe.markPtr with
  | none => none
  | some m =>
    let e := passEntry s
    let mk := s.js.mark (e.firstMark + m)
    if mk.relSeg = s.pe.seg ∧ mk.offset = s.pe.off ∧ s.pe.fired.getLsbD (e.firstMark + m) = false then
      some (m, mk)
    else none

/-- A mark fires: its flag is set and the pointer moves on (R45). -/
def fireMark (m : Nat) (s : State) : State :=
  let e := passEntry s
  s.setPe { s.pe with
    fired := s.pe.fired ||| (1#256 <<< (e.firstMark + m))
    markPtr := if m + 1 < e.markCount then some (m + 1) else none }

/-- The mark check and the hand-on of a fired mark's effect (R44 step 6, R45, R46, R47). -/
def checkMark (s : State) : State :=
  match markDue s with
  | none => s
  | some (m, mk) =>
    let s1 := fireMark m s
    if mk.kind = markEnergy then s1.setEg { s1.eg with primary := mk.value }
    else if mk.kind = markFeed then s1.setGc { s1.gc with limit := mk.value }
    else if mk.kind = markHold then holdEvent (endPass s1)
    else s1

/-- The contour end, reached by the step that completes the last segment (R40, R122). -/
def checkContour (s : State) : State :=
  if s.pe.engine = .pass ∧ s.pe.seg = (passEntry s).segCount then
    if s.pe.passKind = .release then contourEnd (endPass s) else endPass s
  else s

/-- What every forward cut step does after the engine's own part: the recovery count, the mark check and the
contour end (R44, steps 5 to 7). -/
def afterForward (s : State) : State := checkContour (checkMark (s.setEg (recoveryStep s.eg)))

/-- A retract step done: the newest log entry is undone and goes to the stack (R41, R62). -/
def retractOnce (s : State) : State :=
  match s.gc.log with
  | [] => s
  | st :: rest =>
    (s.setPe (enginesBack st s)).setGc
      { s.gc with log := rest, redo := st :: s.gc.redo, asked := false, stepTimer := some s.now }

/-- A retract step already asked for is completed (R64, R69, R70, R71). -/
def completeAsked (s : State) : State := if s.gc.asked then retractOnce s else s

/-- No further retract step may be asked for (R60, R63). -/
def retractSpent (s : State) : Bool := s.gc.log.isEmpty || decide (s.cfg.retractMax ≤ s.gc.redo.length)

/-- Enter STALLED in phase TIMING (R66). -/
def enterStall (s : State) : State :=
  showHead .stalled
    (s.setGc { s.gc with mode := .stalledTiming, asked := false, stepTimer := none, stallTimer := some s.now })

/-- Enter RETRACTING and ask for the first retract step, or stall at once (R61, R63). -/
def beginRetract (s : State) : State :=
  if retractSpent s then enterStall s
  else s.setGc { s.gc with mode := .retracting, asked := true, stepTimer := none }

/-- A retract episode ends: FEEDING, RUN and the recovery count (R65, R76). -/
def endEpisode (s : State) : State :=
  ((s.setGc { s.gc with mode := .feeding, asked := false, stepTimer := none, stallTimer := none }).setPe
    { s.pe with sub := some .run }).setEg { s.eg with recovery := s.cfg.recoverySteps }

/-- The gap has cleared: replay what was undone, or end the episode (R64, R65, R66). -/
def replayOrEnd (s : State) : State :=
  if s.gc.redo = [] then endEpisode s
  else s.setGc { s.gc with mode := .replaying, asked := false, stepTimer := some s.now, stallTimer := none }

/-- A stall ends (R66, R68). -/
def endStall (s : State) : State := replayOrEnd (showHead (passHead s.pe.passKind) s)

/-- A RESUME restarts a cut stuck in STALLED (R53, R68). -/
def stallRestart (s : State) : State := endStall (s.setGc (approach s.cfg s.gc))

/-- Gap Control in IDLE with both lists empty and its timers stopped (R71). -/
def gapOff (gc : GapControl) : GapControl :=
  { gc with mode := .idle, halted := false, asked := false, log := [], redo := [], stepTimer := none
            stallTimer := none }

/-- A loaded pass is ended by SKIP_PART, or as SKIP_PART ends one: a step asked for is completed, the engine
unloads, and log, stack and recovery count are emptied (R38, R71, R77, R129). -/
def dropPass (s : State) : State :=
  let s1 := completeAsked s
  ((s1.setPe (unloadPass s1.pe)).setGc (gapOff s1.gc)).setEg { s1.eg with recovery := 0 }

/-! ## Meanings -/

/-- TRAVERSE_STEP (R25, R30, R31). -/
def execTraverseStep (s : State) : Result :=
  match s.pe.engine, s.pe.traverse with
  | .traverse, some t =>
    match t.moving, lineStep t.sx t.sy t.tx t.ty s.pe.posX s.pe.posY with
    | true, some st =>
      let s1 := s.setPe { issueStep st s.pe with stepTimer := some s.now }
      match s1.ps.activity with
      | .traversing p => .next (if s1.pe.posX = t.tx ∧ s1.pe.posY = t.ty then arrive p s1 else s1)
      | _ => .next s1
    | _, _ => .next s
  | _, _ => .next s

/-- A forward cut step may be issued: RUN, FEEDING, no halt, a feed above 0 (R25, R36, R57). -/
def cutReady (s : State) : Bool :=
  passLoaded s && decide (s.pe.sub = some .run) && decide (s.gc.mode = .feeding) && !s.gc.halted
    && decide (0 < effectiveFeed s)

/-- FORWARD_CUT_STEP (R44). -/
def execForwardCutStep (s : State) : Result :=
  match cutReady s, nextCutStep s with
  | true, some st =>
    .next (afterForward ((s.setPe (enginesForward st s)).setGc { s.gc with log := logStep st s.gc.log }))
  | _, _ => .next s

/-- A sample acts in the mode it finds, after the filter has taken it (R61, R64, R66, R67). -/
def actOnSample (s : State) : State :=
  match s.gc.mode, s.gc.cls with
  | .feeding, .short => beginRetract (s.setPe { s.pe with sub := some .gap })
  | .replaying, .short => beginRetract s
  | .retracting, .normal | .retracting, .openGap => replayOrEnd (completeAsked s)
  | .stalledTiming, .normal | .stalledTiming, .openGap => endStall s
  | _, _ => s

/-- GAP_SAMPLE (R51). -/
def execGapSample (v : BitVec 10) (s : State) : Result :=
  if s.gc.mode.cutting = true ∧ s.gc.halted = false then
    .next (actOnSample (s.setGc (filterSample s.cfg v.toNat s.gc)))
  else .next s

/-- RETRACT_STEP, and the test of the limits after it (R62, R63). -/
def execRetractStep (s : State) : Result :=
  if s.gc.mode = .retracting ∧ s.gc.halted = false ∧ s.gc.log ≠ [] then
    let s1 := retractOnce s
    .next (if s1.gc.cls = .short ∧ retractSpent s1 = true then enterStall s1 else s1)
  else .next s

/-- REPLAY_STEP (R42, R65). -/
def execReplayStep (s : State) : Result :=
  match s.gc.redo with
  | [] => .next s
  | st :: rest =>
    if s.gc.mode = .replaying ∧ s.gc.halted = false ∧ 0 < effectiveFeed s then
      let s1 := afterForward ((s.setPe (enginesForward st s)).setGc
        { s.gc with log := logStep st s.gc.log, redo := rest, stepTimer := some s.now })
      .next (if s1.gc.mode = .replaying ∧ s1.gc.redo = [] then endEpisode s1 else s1)
    else .next s

/-- STALL_TIMER_EXPIRY (R67). -/
def execStallTimerExpiry (s : State) : Result :=
  if s.gc.mode = .stalledTiming ∧ s.gc.halted = false then
    .next (raiseFlag flagShortStuck (s.setGc { s.gc with mode := .stalledStuck, stallTimer := none }))
  else .next s

end Sys2Proof.Machine
end

