-- ==== Sys2Proof/Machine/Threading.lean ====
section
/-! DEFINITION. Wire threading: the stages of an attempt and the rows that end them, the capture, the failure, the
loss of wire and the end of an unthread, with what the Part Sequencer makes of each (R85 to R106, R119, R125, R128,
R129). -/

namespace Sys2Proof.Machine

/-! ## Requests -/

/-- The threading mode of a purpose (R118, R125, R128, R129). -/
def threadModeOf (p : Purpose) : ThreadMode :=
  match p with
  | .startHole | .startHoleAgain => .startHole
  | .releaseKerf | .rethreadPass | .rethreadHold => .kerf

/-- A start request to the Threading Unit (R88, R102). -/
def unitStart (mode : ThreadMode) (now : Nat) (tu : ThreadUnit) : ThreadUnit :=
  match tu.stage with
  | .idle => { tu with stage := .sever, mode := mode, failed := 0, timer := some now }
  | .paused => { tu with stage := .sever, timer := some now }
  | .sever | .anneal | .jet | .feed | .capture | .withdraw | .threaded | .unthread => tu

/-- A thread grant: the intent ends, the start request goes out and the head shows THREADING (R88, R114). -/
def grantThread (p : Purpose) (s : State) : State :=
  let s1 := endIntent s
  (s1.setTu (unitStart (threadModeOf p) s1.now s1.tu)).setPs
    { s1.ps with head := .threading, activity := .threading p }

/-- The Threading Unit drops every line and enters IDLE (R96, R98, R103, R105). -/
def unitIdle (tu : ThreadUnit) : ThreadUnit := { tu with stage := .idle, mode := .none, timer := none }

/-- HALT pauses a threading stage (R100). -/
def unitPause (tu : ThreadUnit) : ThreadUnit := { tu with stage := .paused, timer := none }

/-! ## Capture -/

/-- A capture at the Path Engine (R33). -/
def captureEngine (mode : ThreadMode) (pe : PathEngine) : PathEngine :=
  if mode = .startHole then { pe with count := 0, seg := 0, off := 0 } else { pe with count := 0 }

/-- A stopped pass restarts after its rethreading (R36, R70, R129). -/
def restartPass (s : State) : State :=
  ((s.setPe { s.pe with sub := some .run, remembered := none, awaiting := false, stepTimer := some s.now }).setGc
    { s.gc with mode := .feeding, halted := false, asked := false, redo := [] }).setPs
    { s.ps with head := passHead s.pe.passKind, activity := .passing }

/-- The Part Sequencer on a capture, by what the threading serves (R119, R125, R129). -/
def afterCapture (p : Purpose) (s : State) : State :=
  match p, s.ps.current with
  | .startHole, some i | .startHoleAgain, some i => settle (updateOf i .cutting s) .loadRough .cutting s
  | .startHole, none | .startHoleAgain, none => s
  | .releaseKerf, _ | .rethreadHold, _ => enterWaitRelease s
  | .rethreadPass, _ => restartPass s

/-- WIRE_OK is taken in CAPTURE: the threading succeeds, and each block acts on the report (R94). -/
def capture (s : State) : State :=
  let s1 := s.setTu { s.tu with stage := .threaded, mode := .none, timer := none }
  let s2 := s1.setPe (captureEngine s.tu.mode s1.pe)
  let s3 := s2.setGc { approach s2.cfg s2.gc with log := [] }
  match s3.ps.activity with
  | .threading p => afterCapture p s3
  | _ => s3

/-! ## The stages of an attempt -/

/-- Enter CAPTURE, which ends at once if WIRE_OK is asserted (R93). -/
def enterCapture (s : State) : State :=
  if s.tu.wireOk then capture s else s.setTu { s.tu with stage := .capture, timer := some s.now }

/-- Enter FEED, which ends at once if PICKUP is asserted (R92). -/
def enterFeed (s : State) : State :=
  if s.tu.pickup then enterCapture s else s.setTu { s.tu with stage := .feed, timer := some s.now }

/-- Enter JET, which ends at once if JET_OK is asserted (R91). -/
def enterJet (s : State) : State :=
  if s.tu.jetOk then enterFeed s else s.setTu { s.tu with stage := .jet, timer := some s.now }

/-- An attempt fails: the count rises, stopping at 8, and WITHDRAW begins (R95). -/
def failAttempt (s : State) : State :=
  s.setTu { s.tu with stage := .withdraw, failed := saturate Config.failedLimit (s.tu.failed + 1)
                      timer := some s.now }

/-- The attempt limit in force (R87). -/
def attemptLimit (s : State) : Nat := if s.tu.mode = .kerf then s.cfg.kerfTries else s.cfg.threadTries

/-! ## Failure of a threading -/

/-- The state a failed threading gives the part (R118, R125, R129). -/
def failureState (p : Purpose) (kind : PassKind) : RecState :=
  match p with
  | .startHole | .startHoleAgain => .abandoned
  | .releaseKerf | .rethreadHold => .held
  | .rethreadPass => if kind = .rough then .abandoned else .held

/-- The Part Sequencer on a failed threading: a pass still loaded is ended, the part is settled with no unthread,
and the next part is taken up (R118, R125, R129). -/
def afterFailure (p : Purpose) (s : State) : State :=
  let s1 := if p = .rethreadPass then dropPass s else s
  match s1.ps.current with
  | some i => settle (updateOf i (failureState p s.pe.passKind) s1) .nextPart .idle s1
  | none => s1

/-- The threading has failed (R96). -/
def failThreading (s : State) : State :=
  let s1 := raiseFlag flagThreadFail (s.setTu (unitIdle s.tu))
  match s1.ps.activity with
  | .threading p => afterFailure p s1
  | _ => s1

/-! ## Loss of wire -/

/-- A wire break in the engine, in Gap Control and in the Energy Governor (R36, R70, R77). -/
def breakPass (s : State) : State :=
  let s1 := completeAsked s
  ((s1.setPe { s1.pe with sub := some .stopped, remembered := none, awaiting := true, stepTimer := none }).setGc
    { s1.gc with mode := .wireWait, halted := false, asked := false, redo := [], stepTimer := none
                 stallTimer := none }).setEg { s1.eg with recovery := 0 }

/-- The rethreading after a break: asked for now in RUNNING, after RESUME in HALTED (R128, R129). -/
def askRethread (p : Purpose) (s : State) : State :=
  if jobRunning s then enterWaitThread p s else setActivity (.waitThread p) s

/-- The Part Sequencer on a loss of wire, by where the current part stands (R128). -/
def afterLoss (s : State) : State :=
  match s.ps.activity with
  | .passing => askRethread .rethreadPass (raiseFlag flagWireBreak (breakPass s))
  | .waitRelease => askRethread .rethreadHold (endIntent (raiseFlag flagWireBreak s))
  | .recordWait u .loadRough joined => setActivity (.recordWait u .threadAgain joined) s
  | .recordJoined .loadRough => setActivity (.waitThread .startHoleAgain) s
  | _ => s

/-! ## Meanings -/

/-- SEVER_TIMER_EXPIRY (R89). -/
def execSeverTimerExpiry (s : State) : Result :=
  if s.tu.stage = .sever then .next (s.setTu { s.tu with stage := .anneal, timer := some s.now }) else .next s

/-- ANNEAL_TIMER_EXPIRY (R90, R91). -/
def execAnnealTimerExpiry (pickup : Bool) (s : State) : Result :=
  if s.tu.stage = .anneal then .next (enterJet (s.setTu { s.tu with pickup := pickup })) else .next s

/-- JET_OK_RISE (R91); outside JET the line's level alone is noted. -/
def execJetOkRise (pickup : Bool) (s : State) : Result :=
  let s1 := s.setTu { s.tu with jetOk := true, pickup := pickup }
  if s.tu.stage = .jet then .next (enterFeed s1) else .next s1

/-- JET_TIMEOUT (R91, R95). -/
def execJetTimeout (s : State) : Result :=
  if s.tu.stage = .jet then .next (raiseFlag flagJetFault (failAttempt s)) else .next s

/-- PICKUP_RISE (R92, R93); outside FEED the line's level alone is noted. -/
def execPickupRise (s : State) : Result :=
  let s1 := s.setTu { s.tu with pickup := true }
  if s.tu.stage = .feed then .next (enterCapture s1) else .next s1

/-- FEED_TIMEOUT (R92, R95). -/
def execFeedTimeout (s : State) : Result :=
  if s.tu.stage = .feed then .next (failAttempt s) else .next s

/-- JET_OK_FALL (R92, R93, R95); outside FEED and CAPTURE the line's level alone is noted. -/
def execJetOkFall (s : State) : Result :=
  let s1 := s.setTu { s.tu with jetOk := false }
  if s.tu.stage = .feed ∨ s.tu.stage = .capture then .next (raiseFlag flagJetFault (failAttempt s1)) else .next s1

/-- WIRE_OK_RISE (R93, R94); outside CAPTURE the line's level alone is noted (R98). -/
def execWireOkRise (s : State) : Result :=
  let s1 := s.setTu { s.tu with wireOk := true }
  if s.tu.stage = .capture then .next (capture s1) else .next s1

/-- CAPTURE_TIMEOUT (R93, R95). -/
def execCaptureTimeout (s : State) : Result :=
  if s.tu.stage = .capture then .next (failAttempt s) else .next s

/-- WITHDRAW_END (R95, R96). -/
def execWithdrawEnd (s : State) : Result :=
  if s.tu.stage = .withdraw then
    .next (if s.tu.failed < attemptLimit s then s.setTu { s.tu with stage := .sever, timer := some s.now }
           else failThreading s)
  else .next s

/-- WIRE_OK_FALL (R98, R128); outside THREADED the line's level alone is noted (R103, R104). -/
def execWireOkFall (s : State) : Result :=
  let s1 := s.setTu { s.tu with wireOk := false }
  if s.tu.stage = .threaded then .next (afterLoss (s1.setTu (unitIdle s1.tu))) else .next s1

/-- The unthread is complete: the part is finished, or its update still waits (R104, R105, R116, R120). -/
def afterUnthread (s : State) : State :=
  match s.ps.activity with
  | .unthreading => partBoundary s
  | .recordWait u .unthreadRunning joined => setActivity (.recordWait u .nextPart joined) s
  | .recordJoined .unthreadRunning => setActivity (.recordJoined .nextPart) s
  | _ => s

/-- UNTHREAD_TIMER_EXPIRY (R104, R105). -/
def execUnthreadTimerExpiry (s : State) : Result :=
  if s.tu.stage = .unthread then .next (afterUnthread (s.setTu (unitIdle s.tu))) else .next s

end Sys2Proof.Machine
end

