-- ==== Sys2Proof/Machine/Line.lean ====
section
/-! DEFINITION. The Cell Line and admission rows: OWN_SLOT_ARRIVAL, FRAME_SENT, READBACK_MISMATCH, FRAME_RECEIVED,
LINE_STUCK_TIMEOUT, STUCK_CLEAR, THREAD_WARNING_EXPIRY (R135 to R152, R154, R165, R168, R172), and how the Part
Sequencer acts on an answer (R114, R121, R126). -/

namespace Sys2Proof.Machine

/-! ## Answers acted on -/

/-- DENIED: the part is held and the wire taken out (R121, R126). -/
def onDenied (s : State) : State :=
  match s.ps.current with
  | none => s
  | some p => settle (updateOf p .held s) .unthread .unthreading (endIntent s)

/-- EXPIRED in the rough phase: the part is tabbed and deferred with attempts 1 (R121). -/
def onExpiredRough (s : State) : State :=
  match s.ps.current with
  | none => s
  | some p => settle { updateOf p .tabbed s with defer := true } .unthread .unthreading (endIntent s)

/-- EXPIRED in the release phase: the unthread is requested, the attempts rise, and the part is held or appended
to the deferred list (R126, log 11). -/
def onExpiredRelease (s : State) : State :=
  match s.ps.current with
  | none => s
  | some p =>
    let n := s.ps.attempts.getD 0 + 1
    let s1 := endIntent s
    if n < s.cfg.releaseAttempts then
      requestUnthread (s1.setPs { s1.ps with deferred := s1.ps.deferred ++ [(p, n)] })
    else if s1.tu.stage = .idle then settle (updateOf p .held s1) .nextPart .unthreading s1
    else settle (updateOf p .held s1) .unthreadRunning .unthreading (showHead .unthreading (unitUnthread s1))

/-- The Part Sequencer acts on an answer at once (R114, R121, R126). -/
def actOnAnswer (v : Verdict) (s : State) : State :=
  match v, s.ps.activity with
  | .grant, .waitThread p => grantThread p s
  | .grant, .waitRelease => loadReleasePass (endIntent s)
  | .denied, .waitRelease => onDenied s
  | .expired, .waitRelease => if s.ps.phase = .release then onExpiredRelease s else onExpiredRough s
  | _, _ => s

/-! ## The own slot -/

/-- The head holds an intent in its waiting state (R114, R138). -/
def headWaits (h : HeadState) : Bool := decide (h = .waitThread ∨ h = .waitRelease)

/-- The frame formed from the values as they stand (R138). -/
def formFrame (s : State) : Frame :=
  { station := BitVec.ofNat 4 s.cli.station
    head := BitVec.ofNat 4 (headCode s.ps.head)
    zone := BitVec.ofNat 6 (announcedZone s)
    age := if headWaits s.ps.head then BitVec.ofNat 4 s.pva.intent.ageToSend else 0
    plate := s.prs.announced
    count := s.ps.ownCount
    lastZone := BitVec.ofNat 6 (s.ps.lastRelease.getD 0)
    lastValid := s.ps.lastRelease.isSome }

/-- The quiet count and its heard mark at an own-slot arrival (R147). -/
def quietStep (c : CellLine) : CellLine :=
  { c with quiet := if c.heard then 0 else saturate Config.quietLimit (c.quiet + 1), heard := false }

/-- The quiet count at an own-slot arrival; reaching 16 sets LINE_LOST; none in SOLO (R147). -/
def updateQuiet (s : State) : State :=
  if s.cli.mode = .solo then s
  else
    let s1 := s.setCli (quietStep s.cli)
    if s.cli.quiet < Config.quietLimit ∧ s1.cli.quiet = Config.quietLimit then raiseFlag flagLineLost s1 else s1

/-- A collision: counted, and BACKOFF entered (R145). -/
def collide (c : CellLine) : CellLine :=
  { c with mode := .backoff, collision := countUp c.collision, sending := none }

/-- Another station drives the pair from `now` on, if not before: the stuck timer runs (R146, log 23). -/
def pairDriven (now : Nat) (c : CellLine) : CellLine :=
  { c with stuckTimer := some (c.stuckTimer.getD now), releasedAt := none }

/-- The pair is released from `now` on: the stuck timer is 0 (R146, log 23). -/
def pairReleased (now : Nat) (c : CellLine) : CellLine := { c with stuckTimer := none, releasedAt := some now }

/-- In ACTIVE the formed frame is sent, unless another station drives the pair (R137, R145). -/
def sendFrame (driven : Bool) (s : State) : State :=
  if driven then s.setCli (collide s.cli)
  else s.setCli { s.cli with mode := .active, stuckTimer := none, releasedAt := none
                             sending := some { frame := formFrame s, live := headWaits s.ps.head } }

/-- The drive of the pair in the two halves of the bit being sent; none while the station does not send. A bit
lasts one tick, and the first begins at the own-slot arrival (R135, R136). -/
def pairDrive (s : State) : Option (Bool × Bool) :=
  match s.cli.sending, s.cli.lastSlot with
  | some x, some l => (x.frame.bits[s.now - l]?).map fun b => (b, !b)
  | _, _ => none

/-- What the line mode does with the slot's frame (R134, R137, R144, R145, R146, R150, R151). -/
def slotFrame (driven : Bool) (s : State) : State :=
  match s.cli.mode with
  | .off | .stuck => s
  | .solo | .noSlot => if headWaits s.ps.head then announceIntent (formFrame s).age.toNat s else s
  | .listen =>
    if s.cli.listenLeft ≤ 1 then sendFrame driven (s.setCli { s.cli with listenLeft := 0 })
    else s.setCli { s.cli with listenLeft := s.cli.listenLeft - 1 }
  | .active => sendFrame driven s
  | .backoff => s.setCli { s.cli with mode := .active }

/-- Line modes that receive (R134, R141). -/
def receives (m : LineMode) : Bool :=
  match m with
  | .listen | .active | .backoff | .stuck | .noSlot => true
  | .off | .solo => false

/-- A slot that finds the pair driven by another station shows it to the stuck timer (R146). -/
def noteDriven (driven : Bool) (s : State) : State :=
  if driven = true ∧ receives s.cli.mode = true then s.setCli (pairDriven s.now s.cli) else s

/-- The slot timer's next arrival is one round on (R136, R150, R151). A valid frame taken at this very instant and
before the arrival (R155) has its re-alignment (R143) replaced by this: a DESIGN CHOICE (log 42). -/
def nextRound (s : State) : State :=
  s.setCli { s.cli with lastSlot := some s.now, nextSlot := some (s.now + round s.cfg) }

/-- The answer of the slot, if one is formed, acted on (R168). -/
def answerSlot (s : State) : State :=
  match slotAnswer s with
  | some v => actOnAnswer v s
  | none => s

/-- OWN_SLOT_ARRIVAL: quiet count, ageing, answer, frame (R137, R147). -/
def execOwnSlotArrival (t : Nat) (driven : Bool) (s : State) : Result :=
  if s.cli.mode = .off then .next s
  else
    let s1 := updateQuiet (s.atTime t)
    let s2 := answerSlot (s1.setPva (agePeers s1.pva))
    .next (nextRound (slotFrame driven (noteDriven driven s2)))

/-! ## Sending -/

/-- FRAME_SENT: the pair is released at once after the last bit, and the frame becomes an announcement (R135, R140,
R165). -/
def execFrameSent (t : Nat) (s : State) : Result :=
  match s.cli.sending with
  | none => .next s
  | some x =>
    let s0 := s.atTime t
    let s1 := s0.setCli { pairReleased s0.now s0.cli with sending := none }
    .next (if x.live then announceIntent x.frame.age.toNat s1 else s1)

/-- READBACK_MISMATCH: the station releases the pair, and the stuck timer runs on what still drives it (R140, R145,
R146). -/
def execReadbackMismatch (s : State) : Result :=
  if s.cli.sending.isSome then .next (s.setCli (pairDriven s.now (collide s.cli))) else .next s

/-! ## Receiving -/

/-- The next own-slot arrival after a frame from station `p` that ends at `t`, put off by whole rounds to keep two
arrivals a slot apart (R143). -/
def realigned (c : Params) (station p t : Nat) (last : Option Nat) : Nat :=
  let k := (station + c.cellSize - p) % c.cellSize
  let target := t + k * Config.slotTicks - Config.frameTicks
  match last with
  | none => target
  | some l =>
    if target < l + Config.slotTicks then
      target + (l + Config.slotTicks - target + round c - 1) / round c * round c
    else target

/-- The line's part of a valid frame from station `p` (R142, R143, R146, R147). -/
def hearFrame (c : Params) (now p : Nat) (l : CellLine) : CellLine :=
  { l with
      quiet := 0
      heard := true
      listenLeft := if l.mode = .listen then 1 else l.listenLeft
      nextSlot := if l.mode = .noSlot then l.nextSlot else some (realigned c l.station p now l.lastSlot) }

/-- A valid frame: the peer entry, PLATE_FOREIGN, and the line (R142, R154, R156). -/
def takeValid (f : Frame) (s : State) : State :=
  let foreign := turnsForeign s.prs.announced f (s.pva.peer f.station.toNat)
  let s1 := s.setPva (s.pva.takeFrame s.prs.announced f)
  let s2 := s1.setCli (hearFrame s1.cfg s1.now f.station.toNat s1.cli)
  if foreign then raiseFlag flagPlateForeign s2 else s2

/-- A frame of good form, judged by its station field (R142). -/
def judgeFrame (f : Frame) (s : State) : State :=
  if s.cfg.cellSize ≤ f.station.toNat then s.setCli { s.cli with stray := countUp s.cli.stray }
  else if f.station.toNat = s.cli.station then
    raiseFlag flagDupStation (s.setCli { s.cli with dup := countUp s.cli.dup })
  else takeValid f s

/-- The station has been sending since before the instant `now`, so that no burst can end then. A sending that
began at `now` itself leaves a burst that ended there as it is (R155, log 14). -/
def sendingBefore (now : Nat) (c : CellLine) : Bool := c.sending.isSome && decide (c.lastSlot ≠ some now)

/-- A burst ends: the pair is released, unless the station has begun to send at that very instant (R146). -/
def burstEnds (s : State) : State :=
  if s.cli.sending.isSome then s else s.setCli (pairReleased s.now s.cli)

/-- A burst that the own transmitter had no part in is judged (R135, R141). -/
def judgeBurst (b : Burst) (s : State) : State :=
  if b.ownDrove || Burst.overStuck b then s
  else if Burst.goodForm b then judgeFrame (frameOfBits (Burst.bits b)) s
  else s.setCli { s.cli with crc := countUp s.cli.crc }

/-- FRAME_RECEIVED (R135, R141, R142). A burst that ends at the instant of an own-slot arrival already taken, at which
the station began to send, is judged as R155 gives; one that ends later while the station sends is no burst of
another station and changes nothing (R135, log 14). A burst is received or not by the line mode at its end, also one
that began in OFF: a DESIGN CHOICE (log 43). -/
def execFrameReceived (t : Nat) (b : Burst) (s : State) : Result :=
  if receives s.cli.mode = false ∨ sendingBefore (max s.now t) s.cli = true then .next s
  else .next (judgeBurst b (burstEnds (s.atTime t)))

/-- The pair has been driven for longer than the stuck timer's limit, by one tick at the least, or since it was first
seen driven if that is longer ago (R146, log 23). -/
def stuckDriven (now : Nat) (c : CellLine) : CellLine :=
  { c with stuckTimer := some (min (c.stuckTimer.getD now) (now - (stuckLimit + 1))), releasedAt := none }

/-- LINE_STUCK_TIMEOUT; STUCK sets its flag again, NO_SLOT keeps its mode, SOLO ignores it (R146, R150, R151). In
OFF, of which no rule speaks here, nothing happens: a DESIGN CHOICE (log 40). -/
def execLineStuckTimeout (s : State) : Result :=
  if s.cli.sending.isSome then .next s
  else
    match s.cli.mode with
    | .off | .solo => .next s
    | .noSlot | .stuck => .next (raiseFlag flagLineStuck (s.setCli (stuckDriven s.now s.cli)))
    | .listen | .active | .backoff =>
      .next (raiseFlag flagLineStuck
        (s.setCli { stuckDriven s.now s.cli with mode := .stuck, listenLeft := 0 }))

/-- STUCK_CLEAR: re-listening begins (R146). -/
def execStuckClear (s : State) : Result :=
  if s.cli.mode = .stuck then .next (s.setCli { s.cli with mode := .listen, listenLeft := 2, stuckTimer := none })
  else .next s

/-- THREAD_WARNING_EXPIRY (R172). -/
def execThreadWarningExpiry (s : State) : Result :=
  if s.pva.intent.kind = .thread ∧ s.pva.intent.warnTimer.isSome = true then
    .next (raiseFlag flagAdmitSlow (s.setPva { s.pva with intent := { s.pva.intent with warnTimer := none } }))
  else .next s

end Sys2Proof.Machine
end

