-- ==== Sys2Proof/Machine/Arming.lean ====
section
/-! DEFINITION. ARM's six checks with their derived values (R10 to R17), the reading of the part records (R18, R19),
and the rows that end an ARM: ARM_CHECK_FAILED, ARM_QUEUE_WAIT_END, ARM_SUCCESS (R10, R19, R20). -/

namespace Sys2Proof.Machine

/-! ## Checks 1 to 3 -/

/-- A number in a range, both ends included. -/
def inRange (lo hi n : Nat) : Bool := decide (lo ≤ n) && decide (n ≤ hi)

/-- A point in the work envelope (R8). -/
def inEnvelope (c : Params) (x y : Int) : Bool :=
  decide (0 ≤ x) && decide (x ≤ (c.xmax * 1000 : Nat)) && decide (0 ≤ y) && decide (y ≤ (c.ymax * 1000 : Nat))

/-- Check 1, the header counts (R11). -/
def checkHeader (js : JobStore) : Option (ArmError × Nat) :=
  if inRange 1 64 js.partCount = false then some (.badHeader, 1)
  else if inRange 1 2048 js.segmentCount = false then some (.badHeader, 2)
  else if inRange 0 256 js.markCount = false then some (.badHeader, 3)
  else none

/-- Check 2, the plate identity against the word as stored (R12). -/
def checkPlate (stored : Nat) (js : JobStore) : Option (ArmError × Nat) :=
  if stored = 0 then some (.noPlate, 0)
  else if inRange 1 65534 js.plate && decide (js.plate = stored) then none
  else some (.plateMismatch, 0)

/-- Two ranges of table indices, each by its first index and its count, share none. -/
def disjoint (f n g m : Nat) : Bool := decide (f + n ≤ g) || decide (g + m ≤ f)

/-- The marks of a part that have kind HOLD (R13). -/
def holdCount (js : JobStore) (e : PartEntry) : Nat :=
  (List.range e.markCount).countP fun m => decide ((js.mark (e.firstMark + m)).kind = markHold)

/-- Check 3 of one part (R13). -/
def partPasses (c : Params) (js : JobStore) (p : Nat) : Bool :=
  let e := js.part p
  inRange policyDrop policyTabHold e.policy
    && decide (e.zone < c.zx * c.zy)
    && inRange 1 15 e.eprim && inRange 1 60000 e.fmax
    && inEnvelope c e.startX e.startY
    && decide (1 ≤ e.segCount) && decide (e.firstSeg + e.segCount ≤ js.segmentCount)
    && inRange 1 8 e.markCount && decide (e.firstMark + e.markCount ≤ js.markCount)
    && (List.range p).all (fun q => disjoint e.firstSeg e.segCount (js.part q).firstSeg (js.part q).segCount)
    && (List.range p).all (fun q => disjoint e.firstMark e.markCount (js.part q).firstMark (js.part q).markCount)
    && decide (holdCount js e = 1)

/-- Check 3 (R13). -/
def checkParts (c : Params) (js : JobStore) : Option (ArmError × Nat) :=
  ((List.range js.partCount).find? fun p => !partPasses c js p).map fun p => (.badPart, p)

/-! ## Checks 4 to 6 -/

/-- The segments of the job, as (part, relative segment), in the order of checks 4 and 5 (R10). -/
def segmentVisits (js : JobStore) : List (Nat × Nat) :=
  (List.range js.partCount).flatMap fun p => (List.range (js.part p).segCount).map fun k => (p, k)

/-- The marks of the job, as (part, relative mark), in the order of check 6 (R10). -/
def markVisits (js : JobStore) : List (Nat × Nat) :=
  (List.range js.partCount).flatMap fun p => (List.range (js.part p).markCount).map fun m => (p, m)

/-- Check 4 of one segment (R14). -/
def segmentPasses (c : Params) (g : SegEntry) (start : Int × Int) : Bool :=
  decide (g.kind = segLine ∨ g.kind = segArcCw ∨ g.kind = segArcCcw)
    && inEnvelope c g.endX g.endY
    && !(decide (g.kind = segLine) && decide ((g.endX, g.endY) = start))

/-- Check 4: each segment that passes has its length written before the next is visited (R14). -/
def checkSegments (c : Params) : List (Nat × Nat) → JobStore → JobStore × Option (ArmError × Nat)
  | [], js => (js, none)
  | (p, k) :: rest, js =>
    let e := js.part p
    let n := e.firstSeg + k
    let g := js.segment n
    let start := js.segStart e k
    if segmentPasses c g start then
      checkSegments c rest { js with lengths := Memory.write 0 n (manhattan start (g.endX, g.endY)) js.lengths }
    else (js, some (.badSegment, n))

/-- One has the opposite sign of the other (R15). -/
def oppositeSigns (a b : Int) : Bool := decide (0 < a ∧ b < 0) || decide (a < 0 ∧ 0 < b)

/-- Check 5 of one arc (R15). -/
def arcPasses (g : SegEntry) (start : Int × Int) : Bool :=
  let us := start.1 - g.cenX
  let vs := start.2 - g.cenY
  let ue := g.endX - g.cenX
  let ve := g.endY - g.cenY
  let turn := us * ve - vs * ue
  let rr := us * us + vs * vs
  decide (g.cenX.natAbs ≤ Config.coordLimit.toNat) && decide (g.cenY.natAbs ≤ Config.coordLimit.toNat)
    && decide ((g.endX, g.endY) ≠ start)
    && !oppositeSigns us ue && !oppositeSigns vs ve
    && (if g.kind = segArcCcw then decide (0 < turn) else decide (turn < 0))
    && decide ((ue * ue + ve * ve - rr).natAbs ≤ 2 * isqrt rr.toNat + 1)

/-- The visited segment is an arc that fails check 5 (R15). -/
def arcFails (js : JobStore) (v : Nat × Nat) : Bool :=
  let e := js.part v.1
  let g := js.segment (e.firstSeg + v.2)
  decide (g.kind = segArcCw ∨ g.kind = segArcCcw) && !arcPasses g (js.segStart e v.2)

/-- Check 5 (R15). -/
def checkArcs (js : JobStore) : Option (ArmError × Nat) :=
  ((segmentVisits js).find? (arcFails js)).map fun v => (.badArc, (js.part v.1).firstSeg + v.2)

/-- A mark's progress count (R5). -/
def progressCount (js : JobStore) (e : PartEntry) (mk : MarkEntry) : Nat :=
  ((List.range mk.relSeg).map fun k => js.length (e.firstSeg + k)).sum + mk.offset

/-- The progress count that a part's mark `m` must exceed (R16). -/
def previousProgress (js : JobStore) (e : PartEntry) : Nat → Nat
  | 0 => 0
  | m + 1 => progressCount js e (js.mark (e.firstMark + m))

/-- Check 6 of one mark (R16). -/
def markPasses (js : JobStore) (e : PartEntry) (m : Nat) : Bool :=
  let mk := js.mark (e.firstMark + m)
  (decide (mk.kind = markHold) || (decide (mk.kind = markEnergy) && inRange 1 15 mk.value)
      || (decide (mk.kind = markFeed) && inRange 1 60000 mk.value))
    && decide (mk.relSeg < e.segCount)
    && decide (mk.offset < js.length (e.firstSeg + mk.relSeg))
    && decide (previousProgress js e m < progressCount js e mk)

/-- The hold position of a HOLD mark, traced on a working copy (R17). -/
def holdPosition (js : JobStore) (e : PartEntry) (mk : MarkEntry) : Int × Int :=
  let start := js.segStart e mk.relSeg
  traceSegment (js.segment (e.firstSeg + mk.relSeg)) start mk.offset start

/-- Check 6: the hold position is written when the HOLD mark passes, before the next mark (R16, R17). -/
def checkMarks : List (Nat × Nat) → JobStore → JobStore × Option (ArmError × Nat)
  | [], js => (js, none)
  | (p, m) :: rest, js =>
    let e := js.part p
    let mk := js.mark (e.firstMark + m)
    if markPasses js e m then
      checkMarks rest
        (if mk.kind = markHold then { js with holds := Memory.write (0, 0) p (holdPosition js e mk) js.holds }
         else js)
    else (js, some (.badMark, e.firstMark + m))

/-! ## All six -/

/-- Checks 5 and 6, the segments having passed (R10). -/
def checkArcsThenMarks (js : JobStore) : JobStore × Option (ArmError × Nat) :=
  match checkArcs js with
  | some e => (js, some e)
  | none => checkMarks (markVisits js) js

/-- Checks 4 to 6, the parts having passed (R10). -/
def checkPaths (c : Params) (js : JobStore) : JobStore × Option (ArmError × Nat) :=
  match checkSegments c (segmentVisits js) js with
  | (js1, some e) => (js1, some e)
  | (js1, none) => checkArcsThenMarks js1

/-- The six checks in order, with the derived values written as they go and the first failure (R10). -/
def runChecks (c : Params) (stored : Nat) (js : JobStore) : JobStore × Option (ArmError × Nat) :=
  match checkHeader js with
  | some e => (js, some e)
  | none =>
    match checkPlate stored js with
    | some e => (js, some e)
    | none =>
      match checkParts c js with
      | some e => (js, some e)
      | none => checkPaths c js

/-! ## Reading the part records -/

def setArm (a : ArmRun) (s : State) : State := s.setJs { s.js with arm := a }

/-- The value ARM reads for part `i`: the queue's, else the array's (R18). -/
def armWord (s : State) (i : Nat) : Half := (s.prs.queued i).getD (s.prs.nvWord i)

/-- A part's state is handed on (R18, R115). -/
def handOn (i : Nat) (h : Held) (s : State) : State :=
  s.setPs { s.ps with held := Memory.write Held.dropped i h s.ps.held }

/-- ARM's ABANDONED update (R18). -/
def queueAbandoned (i : Nat) (s : State) : State := queueUpdate (updateOf i .abandoned s) s

/-- The parts from a list are read in order, up to the end or to one whose update must wait (R18, R19, R20). -/
def readRecords : List Nat → State → State
  | [], s => setArm .handed s
  | i :: rest, s =>
    match recordState (armWord s i) with
    | .cutting =>
      if s.prs.canJoin i then readRecords rest (handOn i (.state .abandoned) (queueAbandoned i s))
      else setArm (.waiting i false) s
    | .unknown => readRecords rest (raiseFlag flagRecordUnknown (handOn i .skipped s))
    | .uncut => readRecords rest (handOn i (.state .uncut) s)
    | .tabbed => readRecords rest (handOn i (.state .tabbed) s)
    | .released => readRecords rest (handOn i (.state .released) s)
    | .held => readRecords rest (handOn i (.state .held) s)
    | .abandoned => readRecords rest (handOn i (.state .abandoned) s)

/-- The parts still to be read from index `i` on (R18). -/
def partsFrom (js : JobStore) (i : Nat) : List Nat := (List.range js.partCount).drop i

/-! ## Beginning and ending an ARM -/

/-- An accepted ARM: ARMING, the last error and the fired flags cleared, then the checks and the records (R8, R10,
R18, log 6). -/
def beginArm (s : State) : State :=
  let s1 := s.setPs { s.ps with job := .arming, held := [] }
  let s2 := s1.setPe { s1.pe with engine := .standby, fired := 0 }
  let checked := runChecks s2.cfg (s2.prs.nvWord Config.plateWord).toNat { s2.js with armErr := .none, armIdx := 0 }
  let s3 := s2.setJs checked.1
  match checked.2 with
  | some e => setArm (.failing e.1 e.2) s3
  | none => readRecords (partsFrom s3.js 0) s3

/-- ARM ends: the job's state and an idle engine (R10, R20, R21). -/
def endArm (job : JobState) (s : State) : State :=
  setArm .idle ((s.setPs { s.ps with job := job }).setPe { s.pe with engine := .idle })

/-- ARM_CHECK_FAILED (R10). -/
def execArmCheckFailed (s : State) : Result :=
  match s.ps.job, s.js.arm with
  | .arming, .failing e idx =>
    .next (raiseFlag flagArmFailed (endArm .disarmed (s.setJs { s.js with armErr := e, armIdx := idx })))
  | _, _ => .next s

/-- ARM_QUEUE_WAIT_END: the update joins, if the write completion has not placed it, and ARM goes on with the part
(R19, log 7). -/
def execArmQueueWaitEnd (s : State) : Result :=
  match s.ps.job, s.js.arm with
  | .arming, .waiting p joined =>
    let s1 := if joined then s else queueAbandoned p s
    if joined || s.prs.canJoin p then
      .next (readRecords (partsFrom s.js (p + 1)) (handOn p (.state .abandoned) s1))
    else .next s
  | _, _ => .next s

/-- ARM_SUCCESS (R20). -/
def execArmSuccess (s : State) : Result :=
  if s.ps.job = .arming ∧ s.js.arm = .handed then .next (endArm .armed s) else .next s

end Sys2Proof.Machine
end

