-- ==== Sys2Proof/Machine/Orders.lean ====
section
/-! DEFINITION. The edges of JCLK in mode ORDER: the answer to each order and its effect (R202, R213). A row of an
order is the edge with that order's code in the port word (log 1). -/

namespace Sys2Proof.Machine

/-! ## One ORDER edge -/

/-- Edges are taken from reset release on (R195). -/
def portAwake (s : State) : Bool := decide (s.power = .starting ∨ s.power = .ready)

/-- An edge samples its mode and, out of WORD-OUT, releases JDAT (R196). -/
def sampleEdge (m : PortMode) (s : State) : State := s.setJp { s.jp with lastMode := m, jdat := none }

/-- The answer is recorded and the count advances (R202). -/
def recordAnswer (a : Answer) (s : State) : State :=
  s.setJp { s.jp with answer := a, answers := s.jp.answers + 1 }

/-- A one-shot action at an edge that finds the marker clear, and sets it (R196). -/
def oneShot (m : PortMode) (act : State → State) (s : State) : State :=
  let s1 := sampleEdge m s
  if s1.jp.marker then s1 else act (s1.setJp { s1.jp with marker := true })

/-- A defined order before the start-up completion (R202). -/
def answered (rule : State → Answer × State) (s : State) : State :=
  if s.power = .ready then recordAnswer (rule s).1 (rule s).2 else recordAnswer .refusedStarting s

/-- An ORDER edge with an order's code in the port word (R202, R213). -/
def orderEdge (code : Nat) (rule : State → Answer × State) (s : State) : State :=
  if portAwake s = true ∧ orderCode s.jp.word = code then oneShot .order (answered rule) s else s

/-! ## The job's orders -/

/-- ARM (R8). -/
def armRule (s : State) : Answer × State :=
  match s.ps.job with
  | .disarmed | .done => if s.prs.busy then (.refusedBusy, s) else (.accepted, beginArm s)
  | .arming => (.refusedBusy, s)
  | .armed | .running | .halted => (.refusedState, s)

/-- START (R108). -/
def startRule (s : State) : Answer × State :=
  if s.ps.job = .armed then
    (.accepted, walk walkBound
      ((s.setPs { s.ps with job := .running, phase := .rough, reason := .none, scan := 0, attempts := none }).setPe
        { s.pe with engine := .standby }))
  else (.refusedState, s)

/-- HALT stops a pass with the wire held (R36, R69). A retract step that HALT completes meets no limit test, so that
RETRACTING is kept: a DESIGN CHOICE (log 39). -/
def haltPass (s : State) : State :=
  let s1 := completeAsked s
  (s1.setPe { s1.pe with sub := some .stopped, remembered := s1.pe.sub, stepTimer := none }).setGc
    { s1.gc with halted := true, asked := false, stepTimer := none, stallTimer := none }

/-- HALT stops a traverse where it stands (R32). -/
def haltTraverse (s : State) : State :=
  s.setPe { s.pe with traverse := s.pe.traverse.map fun t => { t with moving := false }, stepTimer := none }

/-- What follows an update that has joined: in RUNNING it is made, in HALTED it waits for RESUME unless it asks
nothing of the head (R109, R116); so does the unthread of a SKIP_PART whose update had to wait, a DESIGN CHOICE
(log 9). -/
def goOn (k : Follow) (s : State) : State :=
  if jobRunning s then followUp k s
  else
    match k with
    | .nextPart | .unthreadRunning => followUp k s
    | .loadRough | .threadAgain | .unthread => setActivity (.recordJoined k) s

/-- HALT acts on what the head was doing (R109). -/
def haltActivity (s : State) : State :=
  match s.ps.activity with
  | .traversing _ => haltTraverse s
  | .waitThread _ => endIntent s
  | .threading p =>
    setActivity (.waitThread p) (if s.tu.stage.threading then s.setTu (unitPause s.tu) else s)
  | .passing => haltPass s
  | .waitRelease => endIntent s
  | .recordWait _ k true => goOn k s
  | .none | .unthreading | .recordWait _ _ false | .recordJoined _ | .boundary => s

/-- HALT (R109). -/
def haltRule (s : State) : Answer × State :=
  if s.ps.job = .running then
    (.accepted, haltActivity (s.setPs { s.ps with
      job := .halted, reason := .host, headBeforeHalt := s.ps.head, head := .parked }))
  else (.refusedState, s)

/-- RESUME of a pass, by the mode Gap Control kept (R36, R69). -/
def resumePass (s : State) : State :=
  let s1 := (s.setPe { s.pe with sub := some (s.pe.remembered.getD .run), remembered := none
                                 stepTimer := some s.now }).setGc
    { approach s.cfg s.gc with halted := false, stepTimer := none }
  let s2 := showHead (passHead s1.pe.passKind) s1
  match s.gc.mode with
  | .retracting | .stalledTiming | .stalledStuck => replayOrEnd s2
  | .replaying => s2.setGc { s2.gc with stepTimer := some s2.now }
  | .idle | .feeding | .wireWait => s2

/-- RESUME restarts a traverse to the same target (R32). -/
def resumeTraverse (s : State) : State :=
  showHead .traverse (s.setPe { s.pe with
    traverse := s.pe.traverse.map fun t => { t with moving := true }, stepTimer := some s.now })

/-- The head takes up what the halt stopped (R110). -/
def resumeActivity (s : State) : State :=
  match s.ps.activity with
  | .traversing _ => resumeTraverse s
  | .waitThread p => enterWaitThread p s
  | .passing => resumePass s
  | .waitRelease => enterWaitRelease s
  | .unthreading => showHead .unthreading s
  | .recordWait _ k true => followUp k s
  | .recordWait _ _ false => showHead s.ps.headBeforeHalt s
  | .recordJoined k => followUp k s
  | .boundary => walk walkBound s
  | .none | .threading _ => s

/-- RESUME (R68, R110). -/
def resumeRule (s : State) : Answer × State :=
  match s.ps.job with
  | .halted => (.accepted, resumeActivity (s.setPs { s.ps with job := .running, reason := .none }))
  | .running =>
    if s.ps.head = .stalled ∧ s.gc.mode = .stalledStuck then (.accepted, stallRestart s) else (.refusedState, s)
  | .disarmed | .arming | .armed | .done => (.refusedState, s)

/-! ## SKIP_PART -/

/-- The current part's result has not been queued (R130, log 12). -/
def unsettled (a : Activity) : Bool :=
  match a with
  | .traversing _ | .waitThread _ | .threading _ | .passing | .waitRelease => true
  | .recordJoined .loadRough | .recordJoined .threadAgain => true
  | .recordWait _ .loadRough true | .recordWait _ .threadAgain true => true
  | .none | .unthreading | .boundary | .recordWait _ _ _ | .recordJoined _ => false

/-- The part stands at a hold point or in a release pass (R130). -/
def atTab (s : State) : Bool :=
  decide (s.ps.phase = .release) || decide (s.pe.passKind = .release)
    || (match s.ps.activity with
        | .waitRelease | .waitThread .rethreadHold | .threading .rethreadHold => true
        | _ => false)

/-- The head's work on the part is ended: pass, traverse, threading (R38, R71, R103, R130). -/
def endWork (s : State) : State :=
  let s1 := if passLoaded s then dropPass s else s
  let s2 := s1.setGc { s1.gc with log := [], redo := [] }
  let s3 := s2.setPe { s2.pe with engine := .standby, traverse := none, stepTimer := none }
  if s3.tu.stage.threading ∨ s3.tu.stage = .paused then s3.setTu (unitIdle s3.tu) else s3

/-- An accepted SKIP_PART: the work is ended, the part settled, and the wire taken out (R130, log 9, log 10). -/
def skipPart (s : State) : State :=
  match s.ps.current with
  | none => s
  | some p =>
    let r := if atTab s then RecState.held else RecState.abandoned
    let s1 := endWork s
    let threaded := decide (s1.tu.stage = .threaded)
    let s2 := s1.setPs { s1.ps with
      headBeforeHalt := quietHead s1.ps.headBeforeHalt (if threaded then .unthreading else .idle) }
    settle (updateOf p r s2) (if threaded then .unthread else .nextPart) s2.ps.head s2

/-- A record wait is in progress: its update has not joined the queue (R130, log 12). -/
def recordWaiting (a : Activity) : Bool :=
  match a with
  | .recordWait _ _ joined => !joined
  | _ => false

/-- SKIP_PART (R130). -/
def skipRule (s : State) : Answer × State :=
  match s.ps.job with
  | .running =>
    if recordWaiting s.ps.activity then (.refusedBusy, s)
    else if s.ps.head = .stalled ∧ unsettled s.ps.activity = true then (.accepted, skipPart s)
    else (.refusedState, s)
  | .halted =>
    if recordWaiting s.ps.activity then (.refusedBusy, s)
    else if s.ps.current.isSome && unsettled s.ps.activity then (.accepted, skipPart s)
    else (.refusedState, s)
  | .disarmed | .arming | .armed | .done => (.refusedState, s)

/-! ## ABORT -/

/-- A rough-phase threading, or the wait or traverse before it, at an ABORT (R111). -/
def abortThreading (kind : PassKind) (p : Purpose) : Option RecState :=
  match p with
  | .startHole | .releaseKerf => none
  | .startHoleAgain => some .abandoned
  | .rethreadPass => if kind = .release then some .held else some .abandoned
  | .rethreadHold => some .held

/-- The state an ABORT gives the current part, if any (R111). -/
def abortState (s : State) : Option RecState :=
  match s.ps.activity with
  | .traversing p | .waitThread p | .threading p => abortThreading s.pe.passKind p
  | .passing => if s.pe.passKind = .release then some .held else some .abandoned
  | .waitRelease => some .held
  | .recordJoined .loadRough | .recordJoined .threadAgain => some .abandoned
  | .recordWait _ .loadRough true | .recordWait _ .threadAgain true => some .abandoned
  | .none | .unthreading | .boundary | .recordWait _ _ _ | .recordJoined _ => none

/-- The update of an ABORT joins the queue if it can; it does not wait (R111, R184). -/
def abortUpdate (s : State) : State :=
  match s.ps.current, abortState s with
  | some p, some r =>
    if s.prs.canJoin p then noteUpdate (updateOf p r s) (queueUpdate (updateOf p r s) s) else s
  | _, _ => s

/-- The Path Engine becomes IDLE with nothing loaded (R32, R38, R111). -/
def engineOff (pe : PathEngine) : PathEngine := { unloadPass pe with engine := .idle, traverse := none }

/-- Everything under way is dropped (R9, R111). -/
def abortAll (s : State) : State :=
  let s1 := if passLoaded s then dropPass s else s
  let s2 := (s1.setPe (engineOff s1.pe)).setGc (gapOff s1.gc)
  let s3 := endIntent (setArm .idle (s2.setTu (unitIdle s2.tu)))
  s3.setPs { s3.ps with
    job := .disarmed, phase := .none, reason := .none, current := none, attempts := none, head := .parked
    activity := .none, held := [], scan := 0, deferred := [], marker := false }

/-- ABORT (R9, R111). -/
def abortRule (s : State) : Answer × State :=
  match s.ps.job with
  | .disarmed => (.refusedState, s)
  | .arming | .armed | .running | .halted | .done => (.accepted, abortAll (abortUpdate s))

/-! ## Position, plate and configuration -/

/-- A coordinate argument in range (R23). -/
def coordOk (c : Int) : Bool := decide (-Config.coordLimit ≤ c) && decide (c ≤ Config.coordLimit)

/-- SET_POSITION_X and SET_POSITION_Y by what they set (R23). -/
def setPositionRule (put : Int → PathEngine → PathEngine) (s : State) : Answer × State :=
  if s.pe.engine ≠ .idle then (.refusedBusy, s)
  else if coordOk (orderCoord s.jp.word) then (.accepted, s.setPe (put (orderCoord s.jp.word) s.pe))
  else (.refusedArg, s)

/-- An accepted NEW_PLATE (R156, R174, R188, R189). -/
def beginNewPlate (arg : Half) (s : State) : State :=
  let s1 := s.setPs { s.ps with ownCount := 0, lastRelease := none }
  let foreign := somePeerTurnsForeign arg s1.pva
  let s2 := s1.setPva { s1.pva with
    tally := [], peers := s1.pva.peers.map fun e => (e.1, e.2.newIdentity arg) }
  let s3 := s2.setPrs
    (RecordStore.feedAll s2.now Config.newPlateUpdates
      { s2.prs with announced := arg, plateArg := arg, feed := some 0 })
  if foreign then raiseFlag flagPlateForeign s3 else s3

/-- NEW_PLATE (R187). -/
def newPlateRule (s : State) : Answer × State :=
  match s.ps.job with
  | .arming => (.refusedBusy, s)
  | .armed | .running | .halted => (.refusedState, s)
  | .disarmed | .done =>
    if s.prs.busy then (.refusedBusy, s)
    else if inRange 1 65534 (orderArg s.jp.word) then (.accepted, beginNewPlate (orderHalf s.jp.word) s)
    else (.refusedArg, s)

/-- Bits 23 to 16 of a WRITE_CONFIG, an index when bits 23 to 20 are 0 (R213). -/
def configIndex (w : Word) : Nat := field w 16 8

/-- WRITE_CONFIG (R190). -/
def writeConfigRule (s : State) : Answer × State :=
  match s.ps.job with
  | .arming => (.refusedBusy, s)
  | .running | .halted => (.refusedState, s)
  | .disarmed | .armed | .done =>
    let word := Config.plateWord + configIndex s.jp.word
    if inRange 1 15 (configIndex s.jp.word) = false then (.refusedArg, s)
    else if s.prs.canJoin word then
      (.accepted, s.setPrs (s.prs.join s.now word (orderHalf s.jp.word) false))
    else (.refusedBusy, s)

/-! ## Flags, mask, counters -/

/-- CLEAR_FLAGS (R204). -/
def clearFlagsRule (s : State) : Answer × State :=
  (.accepted, s.setJp { s.jp with flags := clearFlagBits s.jp.flags (orderHalf s.jp.word) })

/-- SET_ATTN_MASK (R205). -/
def attnMaskRule (s : State) : Answer × State := (.accepted, s.setJp { s.jp with mask := orderHalf s.jp.word })

/-- CLEAR_COUNTERS (R149, R159, R207). -/
def clearCountersRule (s : State) : Answer × State :=
  (.accepted, (s.setCli { s.cli with collision := 0, crc := 0, dup := 0, stray := 0 }).setPva
    { s.pva with errors := 0 })

/-! ## Meanings -/

/-- The ARM order (R8). -/
def execArm (s : State) : Result := .next (orderEdge orderArm armRule s)
/-- The START order (R108). -/
def execStart (s : State) : Result := .next (orderEdge orderStart startRule s)
/-- The HALT order (R109). -/
def execHalt (s : State) : Result := .next (orderEdge orderHalt haltRule s)
/-- The RESUME order (R110). -/
def execResume (s : State) : Result := .next (orderEdge orderResume resumeRule s)
/-- The SKIP_PART order (R130). -/
def execSkipPart (s : State) : Result := .next (orderEdge orderSkipPart skipRule s)
/-- The ABORT order (R111). -/
def execAbort (s : State) : Result := .next (orderEdge orderAbort abortRule s)
/-- The SET_POSITION_X order (R23). -/
def execSetPositionX (s : State) : Result :=
  .next (orderEdge orderSetPositionX (setPositionRule fun c pe => { pe with posX := c }) s)
/-- The SET_POSITION_Y order (R23). -/
def execSetPositionY (s : State) : Result :=
  .next (orderEdge orderSetPositionY (setPositionRule fun c pe => { pe with posY := c }) s)
/-- The NEW_PLATE order (R187, R188). -/
def execNewPlate (s : State) : Result := .next (orderEdge orderNewPlate newPlateRule s)
/-- The WRITE_CONFIG order (R190). -/
def execWriteConfig (s : State) : Result := .next (orderEdge orderWriteConfig writeConfigRule s)
/-- The CLEAR_FLAGS order (R204). -/
def execClearFlags (s : State) : Result := .next (orderEdge orderClearFlags clearFlagsRule s)
/-- The SET_ATTN_MASK order (R205). -/
def execSetAttnMask (s : State) : Result := .next (orderEdge orderSetAttnMask attnMaskRule s)
/-- The CLEAR_COUNTERS order (R207). -/
def execClearCounters (s : State) : Result := .next (orderEdge orderClearCounters clearCountersRule s)

/-- An ORDER edge whose code names no order (R202). -/
def execUndefinedOrder (s : State) : Result :=
  .next (if portAwake s = true ∧ orderCode s.jp.word ∉ definedOrders then
    oneShot .order (recordAnswer .refusedArg) s else s)

end Sys2Proof.Machine
end

