-- ==== Sys2Proof/Machine/Records.lean ====
section
/-! DEFINITION. The array's rows ERASE_END and WRITE_END, and the rows in which a waiting source goes on:
NEW_PLATE_FEED_RESUME and RECORD_WAIT_END (R116, R179 to R184, R189). -/

namespace Sys2Proof.Machine

/-! ## Write completion -/

/-- The one waiting source is served at a write completion: its update joins at the freed place, and a NEW_PLATE
goes on feeding until an update cannot join (R184, R189, log 7). -/
def serveWaiting (s : State) : State :=
  match s.js.arm, s.ps.activity with
  | .waiting p false, _ => setArm (.waiting p true) (queueAbandoned p s)
  | _, .recordWait u k false => setActivity (.recordWait u k true) (noteUpdate u (queueUpdate u s))
  | _, _ => s.setPrs (s.prs.feedAll s.now Config.newPlateUpdates)

/-- A write completion: the head entry leaves, the next update begins, the waiting source is served, and a
NEW_PLATE with nothing left ends (R179, R184, R189). -/
def completeWrite (s : State) : State :=
  let s1 := serveWaiting (s.setPrs (s.prs.removeHead s.now))
  s1.setPrs s1.prs.endNewPlate

/-- The Part Sequencer is told of a record fault (R131). -/
def markFault (s : State) : State :=
  if s.ps.job = .running ∨ s.ps.job = .halted then s.setPs { s.ps with marker := true } else s

/-- The retry of an update: the word is erased again (R180). -/
def retryUpdate (now word : Nat) (r : RecordStore) : RecordStore :=
  { r with nv := Memory.write 0#16 word 0#16 r.nv, stage := .erase, retried := true, timer := some now }

/-- What the end of a write with a read-back finds (R179, R180, R181, log 22). -/
def judgeWrite (e : QueueEntry) (readBack : Half) (s : State) : State :=
  if e.value ≠ s.prs.writing then s.setPrs (s.prs.beginUpdate s.now)
  else if readBack = s.prs.writing then completeWrite s
  else if s.prs.retried = false then s.setPrs (retryUpdate s.now e.word s.prs)
  else completeWrite (markFault (raiseFlag flagRecordFault s))

/-! ## Meanings -/

/-- ERASE_END: the write takes the entry's value as it stands (R179, R181). -/
def execEraseEnd (s : State) : Result :=
  match s.prs.stage, s.prs.queue with
  | .erase, e :: _ => .next (s.setPrs { s.prs with stage := .write, writing := e.value, timer := some s.now })
  | _, _ => .next s

/-- WRITE_END: the word holds what is read back (R179, R180). -/
def execWriteEnd (readBack : Half) (s : State) : Result :=
  match s.prs.stage, s.prs.queue with
  | .write, e :: _ =>
    .next (judgeWrite e readBack (s.setPrs { s.prs with nv := Memory.write 0#16 e.word readBack s.prs.nv }))
  | _, _ => .next s

/-- NEW_PLATE_FEED_RESUME: feeding goes on (R189). -/
def execNewPlateFeedResume (s : State) : Result :=
  .next (s.setPrs (s.prs.feedAll s.now Config.newPlateUpdates))

/-- RECORD_WAIT_END: the update joins, if the write completion has not placed it, and the sequence continues
(R116, log 7). -/
def execRecordWaitEnd (s : State) : Result :=
  match s.ps.activity with
  | .recordWait _ k true => .next (goOn k s)
  | .recordWait u k false =>
    if s.prs.canJoin u.part then .next (goOn k (noteUpdate u (queueUpdate u s))) else .next s
  | _ => .next s

end Sys2Proof.Machine
end

