-- ==== Sys2Proof/Machine/Port.lean ====
section
/-! DEFINITION. The address map, the status words and the edges of JCLK in every mode but ORDER: HOLD, ADDR_IN,
WORD_IN, PUT, GET, WORD_OUT, PEEK (R48, R195 to R201, R210 to R212). -/

namespace Sys2Proof.Machine

/-! ## Status words (R210) -/

/-- A truth value as a bit. -/
def bit (b : Bool) : Nat := b.toNat

/-- A signed 32-bit word. -/
def signedWord (c : Int) : Word := BitVec.ofInt 32 c

/-- 0xF000, the status word. -/
def statusWord (s : State) : Word :=
  pack [ (0, 3, jobCode s.ps.job), (3, 2, phaseCode s.ps.phase), (5, 2, reasonCode s.ps.reason)
       , (7, 4, headCode s.ps.head), (11, 1, bit (decide (s.power = .ready))), (12, 1, bit s.prs.busy)
       , (13, 4, s.prs.queue.length), (17, 3, answerCode s.jp.answer), (20, 4, s.jp.answers.toNat)
       , (24, 1, bit (attn s)), (25, 3, lineModeCode s.cli.mode), (28, 2, linkCode (linkCondition s.cli))
       , (30, 2, updateStageCode s.prs.stage) ]

/-- 0xF001, the first progress word. -/
def progressWord (sn : Snapshot) : Word := pack [(0, 7, sn.part), (7, 2, passKindCode sn.kind), (12, 12, sn.seg)]

/-- 0xF00B. -/
def errorsWord (s : State) : Word := pack [(0, 16, saturate 65535 (unattributed s.pva)), (16, 16, s.pva.errors)]

/-- 0xF00C. -/
def armWordShown (s : State) : Word :=
  pack [(0, 4, armErrorCode s.js.armErr), (4, 12, s.js.armIdx), (16, 16, s.prs.announced.toNat)]

/-- 0xF00D; of the causes, the first listed lies lowest (log 16). -/
def gapWord (s : State) : Word :=
  pack [ (0, 2, engineCode s.pe.engine), (2, 2, subCode s.pe.sub), (4, 3, gapModeCode s.gc.mode)
       , (7, 1, bit (decide (s.gc.mode = .stalledStuck))), (8, 1, bit s.gc.halted), (9, 2, gapClassCode s.gc.cls)
       , (11, 10, gapFiltered s.gc), (21, 4, s.eg.primary), (25, 4, eact s)
       , (29, 1, bit (peerThreadNear s)), (30, 1, bit (peerReleaseNear s)), (31, 1, bit (recoveryHolds s)) ]

/-- 0xF00E; of the lines, the first listed lies lowest (log 16). -/
def threadWord (s : State) : Word :=
  pack [ (0, 4, energyLines s), (4, 1, bit (pulseEn s))
       , (5, 1, bit (lineCut s.tu.stage)), (6, 1, bit (lineAnneal s.tu.stage)), (7, 1, bit (lineJet s.tu.stage))
       , (8, 1, bit (lineFeed s.tu.stage)), (9, 1, bit (lineWithdraw s.tu.stage))
       , (10, 1, bit (lineTension s.tu.stage)), (11, 4, stageCode s.tu.stage), (15, 2, threadModeCode s.tu.mode)
       , (17, 4, s.tu.failed), (21, 1, bit s.tu.jetOk), (22, 1, bit s.tu.pickup), (23, 1, bit s.tu.wireOk)
       , (24, 8, s.eg.recovery) ]

/-- The word named by the update in flight; 0 with none (R210, log 28). -/
def wordInFlight (r : RecordStore) : Nat :=
  match r.stage, r.queue with
  | .none, _ => 0
  | _, [] => 0
  | _, e :: _ => e.word

/-- 0xF00F. -/
def partWord (s : State) : Word :=
  pack [ (0, 7, s.ps.current.getD 127), (7, 7, s.ps.deferred.length), (14, 8, s.ps.ownCount.toNat)
       , (22, 7, wordInFlight s.prs), (29, 1, bit s.ps.marker) ]

/-- The sixteen status words by their place above 0xF000. -/
def statusRead (s : State) (k : Nat) : Word :=
  match k with
  | 0 => statusWord s
  | 1 => progressWord s.pe.snap
  | 2 => BitVec.ofNat 32 s.pe.snap.off
  | 3 => BitVec.ofNat 32 s.pe.snap.count
  | 4 => signedWord s.pe.snap.x
  | 5 => signedWord s.pe.snap.y
  | 6 => signedWord s.pe.posX
  | 7 => signedWord s.pe.posY
  | 8 => pack [(0, 16, s.jp.flags.toNat), (16, 16, s.jp.mask.toNat)]
  | 9 => pack [(0, 16, s.cli.crc), (16, 16, s.cli.collision)]
  | 10 => pack [(0, 16, s.cli.stray), (16, 16, s.cli.dup)]
  | 11 => errorsWord s
  | 12 => armWordShown s
  | 13 => gapWord s
  | 14 => threadWord s
  | 15 => partWord s
  | _ => 0#32

/-! ## The rest of the map -/

/-- Configuration word `k` in use, with station and straps in word 1; 0 before the start-up completion (R201,
R212). -/
def configRead (s : State) (k : Nat) : Word :=
  if s.power = .ready then configWord s.cfg s.cli.station s.cli.strap k else 0#32

/-- First word of a peer entry (R211). -/
def peerFirst (p : Peer) : Word :=
  pack [ (0, 2, livenessCode p.live), (2, 5, p.missed), (7, 4, p.head.toNat), (11, 6, p.zone.toNat)
       , (17, 4, p.age.toNat), (21, 1, bit p.isForeign), (22, 8, p.last.toNat) ]

/-- Second word of a peer entry (R211). -/
def peerSecond (p : Peer) : Word := pack [(0, 16, p.attributed), (16, 16, p.cumulative)]

/-- Word `k` of the peer view (R211). -/
def peerRead (s : State) (k : Nat) : Word :=
  if k % 2 = 0 then peerFirst (s.pva.peer (k / 2)) else peerSecond (s.pva.peer (k / 2))

/-- The word at an address of the map; 0 outside it (R200, R201). -/
def mapRead (s : State) (a : Nat) : Word :=
  if isStoreAddress a then s.js.word a
  else if inRange 0xF000 0xF00F a then statusRead s (a - 0xF000)
  else if inRange 0xF010 0xF01E a then configRead s (a - 0xF010 + 1)
  else if inRange 0xF100 0xF11F a then peerRead s (a - 0xF100)
  else if inRange 0xF140 0xF17F a then pack [(0, 8, Memory.read 0 s.pva.tally (a - 0xF140))]
  else if inRange 0xF200 0xF24F a then (s.prs.nvWord (a - 0xF200)).setWidth 32
  else 0#32

/-- The address of the first progress word (R48, R210). -/
def firstProgress : Half := 0xF001#16

/-- The five progress words as the engine stands (R48). -/
def takeSnapshot (pe : PathEngine) : Snapshot :=
  { part := pe.passPart, kind := pe.passKind, seg := pe.seg, off := pe.off, count := pe.count, x := pe.posX
    y := pe.posY }

/-- A GET of the first progress word latches the snapshot (R48). -/
def latch (s : State) : State :=
  if s.jp.addr = firstProgress then s.setPe { s.pe with snap := takeSnapshot s.pe } else s

/-! ## Edges -/

/-- An edge is taken only from reset release on (R195). -/
def edge (act : State → State) (s : State) : State := if portAwake s then act s else s

/-- The address register moves on, wrapping (R199, R200). -/
def nextAddress (s : State) : State := s.setJp { s.jp with addr := s.jp.addr + 1 }

/-- A word is stored whole (R6, R199). -/
def storeWord (s : State) : State :=
  s.setJs { s.js with mem := Memory.write 0#32 s.jp.addr.toNat s.jp.word s.js.mem }

/-- The answer to a PUT (R6, R199). -/
def putAnswer (s : State) : Answer :=
  if isStoreAddress s.jp.addr.toNat then
    if s.ps.job = .disarmed ∨ s.ps.job = .done then .accepted else .refusedState
  else .refusedArg

/-- A PUT's action (R199). -/
def putAction (s : State) : State :=
  nextAddress (recordAnswer (putAnswer s) (if putAnswer s = .accepted then storeWord s else s))

/-- A GET's action (R200). -/
def getAction (s : State) : State :=
  let s1 := latch s
  nextAddress (s1.setJp { s1.jp with word := mapRead s1 s1.jp.addr.toNat })

/-- A PEEK's action (R200). -/
def peekAction (s : State) : State := s.setJp { s.jp with word := statusWord s }

/-- WORD-OUT's bit counter (R198). -/
def nextOutBit (jp : JobPort) : BitVec 5 := if jp.lastMode = .wordOut then jp.outBit - 1 else 31

/-- A shift register takes a bit at its low end (R197). -/
def shiftIn {n : Nat} (r : BitVec n) (b : Bool) : BitVec n := (r <<< 1) ||| (BitVec.ofBool b).setWidth n

/-! ## Meanings -/

/-- PUT (R199). -/
def execPut (s : State) : Result := .next (edge (oneShot .put putAction) s)

/-- GET (R200); `pickup` is the level that word 0xF00E shows (log 5). -/
def execGet (pickup : Bool) (s : State) : Result :=
  .next (edge (fun s => oneShot .get getAction (s.setTu { s.tu with pickup := pickup })) s)

/-- PEEK (R200). -/
def execPeek (s : State) : Result := .next (edge (oneShot .peek peekAction) s)

/-- ADDR_IN (R197). -/
def execAddrIn (b : Bool) (s : State) : Result :=
  .next (edge (fun s => let s1 := sampleEdge .addrIn s; s1.setJp { s1.jp with addr := shiftIn s1.jp.addr b }) s)

/-- WORD_IN (R197). -/
def execWordIn (b : Bool) (s : State) : Result :=
  .next (edge (fun s => let s1 := sampleEdge .wordIn s; s1.setJp { s1.jp with word := shiftIn s1.jp.word b }) s)

/-- WORD_OUT (R198). -/
def execWordOut (s : State) : Result :=
  .next (edge (fun s => s.setJp { s.jp with
    lastMode := .wordOut, outBit := nextOutBit s.jp
    jdat := some (s.jp.word.getLsbD (nextOutBit s.jp).toNat) }) s)

/-- HOLD (R196). -/
def execHold (s : State) : Result :=
  .next (edge (fun s => let s1 := sampleEdge .hold s; s1.setJp { s1.jp with marker := false }) s)

end Sys2Proof.Machine
end

