-- ==== Sys2Proof/Machine/Resets.lean ====
section
/-! DEFINITION. The resets, their release, the start-up completion and the loss of power (R7, R21, R72, R84, R106,
R132, R133, R152, R175, R185, R191 to R195). -/

namespace Sys2Proof.Machine

/-! ## Reset values, block by block -/

/-- The Job Store over a warm reset: tables and derived values kept (R7, R9). -/
def JobStore.warm (js : JobStore) : JobStore := { js with armErr := .none, armIdx := 0, arm := .idle }

/-- The Path Engine over a warm reset (R21, R22, R24, R39, R43, R45, R49). -/
def PathEngine.warm (pe : PathEngine) : PathEngine :=
  { PathEngine.reset with
      posX := pe.posX, posY := pe.posY, passPart := pe.passPart, seg := pe.seg, off := pe.off, count := pe.count
      markPtr := pe.markPtr, fired := pe.fired }

/-- The Threading Unit after either reset; the input levels are the world's (R106, log 34). -/
def ThreadUnit.restart (tu : ThreadUnit) : ThreadUnit :=
  { ThreadUnit.reset with jetOk := tu.jetOk, pickup := tu.pickup, wireOk := tu.wireOk }

/-- The Cell Line Interface over a warm reset: the line counters kept (R149, R152). -/
def CellLine.warm (c : CellLine) : CellLine :=
  { CellLine.reset with collision := c.collision, crc := c.crc, dup := c.dup, stray := c.stray }

/-- Peer View and Admission over a warm reset: the error counter kept (R159, R175). -/
def PeerView.warm (v : PeerView) : PeerView := { PeerView.reset with errors := v.errors }

/-- What POR puts in every block (R7, R22, R39, R43, R45, R49, R72, R84, R106, R132, R149, R159, R175, R194,
R195). -/
def porBlocks (s : State) : State :=
  { s with
      cfg := Params.zero, js := JobStore.reset, pe := PathEngine.reset, gc := GapControl.reset, eg := Energy.reset
      tu := s.tu.restart, ps := Sequencer.reset, cli := CellLine.reset, pva := PeerView.reset
      prs := s.prs.lose, jp := JobPort.reset }

/-- What a warm reset puts in every block. -/
def warmBlocks (s : State) : State :=
  { s with
      cfg := Params.zero, js := s.js.warm, pe := s.pe.warm, gc := GapControl.reset, eg := Energy.reset
      tu := s.tu.restart, ps := Sequencer.reset, cli := s.cli.warm, pva := s.pva.warm, prs := s.prs.lose
      jp := JobPort.reset }

/-! ## Start-up -/

/-- The configuration word `k` as the array holds it (R176). -/
def storedConfig (s : State) (k : Nat) : Half := s.prs.nvWord (Config.plateWord + k)

/-- The station number (R133). -/
def stationNumber (strap : BitVec 4) (offset : Nat) : Nat := (strap.toNat + offset) % 16

/-- The first line mode (R133). -/
def firstMode (cellSize station : Nat) : LineMode :=
  if cellSize = 1 then .solo else if cellSize ≤ station then .noSlot else .listen

/-- The line starts in its first mode: the slot timer by R144, R150, R151, and the one slot that ends LISTEN. -/
def startLine (c : Params) (now : Nat) (l : CellLine) : CellLine :=
  let station := stationNumber l.strap c.stationOffset
  let mode := firstMode c.cellSize station
  { l with
      station := station
      mode := mode
      nextSlot := some (if mode = .listen then now + 2 * round c else now + round c)
      lastSlot := none
      listenLeft := if mode = .listen then 1 else 0 }

/-- The records are handed out: own release count and tally (R161, R193). -/
def handOutRecords (s : State) : State :=
  (s.setPs { s.ps with ownCount := BitVec.ofNat 8 (releasedRecords s.prs) }).setPva
    { s.pva with tally := rebuiltTally s.prs }

/-- The start-up completion (R133, R151, R186, R191, R192, R193, R205). -/
def completeStartUp (s : State) : State :=
  let c := paramsOfWords (storedConfig s)
  let s1 := handOutRecords ((s.setPower .ready).setCfg c)
  let s2 := s1.setPrs { s1.prs with announced := s1.prs.nvWord Config.plateWord }
  let s3 := s2.setJp { s2.jp with mask := c.attnMask }
  let s4 := if configClamped (storedConfig s) then raiseFlag flagConfigClamped s3 else s3
  let s5 := s4.setCli (startLine c s4.now s4.cli)
  if s5.cli.mode = .noSlot then raiseFlag flagLineLost s5 else s5

/-! ## Meanings -/

/-- POWER_ON_RESET: every block in its reset state, the array as it stands (R7, R185). -/
def execPowerOnReset (s : State) : Result := .next ((porBlocks s).setPower .held)

/-- WARM_RESET: a pulse already begun is finished and counted (R24, log 8), then tables, position, progress and
counters are kept, all else reset (R132); without power nothing is reset (log 2). -/
def execWarmReset (s : State) : Result :=
  if s.power = .off then .next s else .next ((warmBlocks (completeAsked s)).setPower .held)

/-- RESET_RELEASE: the straps are latched, the line is OFF and the start-up reading begins (R133, R192). -/
def execResetRelease (strap : BitVec 4) (s : State) : Result :=
  if s.power = .held then .next ((s.setPower .starting).setCli { s.cli with strap := strap, mode := .off })
  else .next s

/-- START_UP_COMPLETION (R192). -/
def execStartUpCompletion (t : Nat) (s : State) : Result :=
  if s.power = .starting then .next (completeStartUp (s.atTime t)) else .next s

/-- POWER_LOSS: the array as a reset leaves it, and nothing else kept (R185, log 19). -/
def execPowerLoss (s : State) : Result := .next ((porBlocks s).setPower .off)

end Sys2Proof.Machine
end

