-- ==== Sys2Proof/Machine/Dispatch.lean ====
section
/-! DEFINITION. The meaning of each command. -/

namespace Sys2Proof.Machine

/-- A command's effect on everything but the queue. -/
def exec (i : Instr) (s : State) : Host.Outcome State Fault Refusal :=
  match i with
  | .powerOnReset => Sys2Proof.Machine.execPowerOnReset s
  | .warmReset => Sys2Proof.Machine.execWarmReset s
  | .resetRelease a => Sys2Proof.Machine.execResetRelease a s
  | .startUpCompletion a => Sys2Proof.Machine.execStartUpCompletion a s
  | .put => Sys2Proof.Machine.execPut s
  | .get a => Sys2Proof.Machine.execGet a s
  | .peek => Sys2Proof.Machine.execPeek s
  | .arm => Sys2Proof.Machine.execArm s
  | .armCheckFailed => Sys2Proof.Machine.execArmCheckFailed s
  | .armQueueWaitEnd => Sys2Proof.Machine.execArmQueueWaitEnd s
  | .armSuccess => Sys2Proof.Machine.execArmSuccess s
  | .start => Sys2Proof.Machine.execStart s
  | .halt => Sys2Proof.Machine.execHalt s
  | .resume => Sys2Proof.Machine.execResume s
  | .skipPart => Sys2Proof.Machine.execSkipPart s
  | .abort => Sys2Proof.Machine.execAbort s
  | .setPositionX => Sys2Proof.Machine.execSetPositionX s
  | .setPositionY => Sys2Proof.Machine.execSetPositionY s
  | .newPlate => Sys2Proof.Machine.execNewPlate s
  | .newPlateFeedResume => Sys2Proof.Machine.execNewPlateFeedResume s
  | .writeConfig => Sys2Proof.Machine.execWriteConfig s
  | .clearFlags => Sys2Proof.Machine.execClearFlags s
  | .setAttnMask => Sys2Proof.Machine.execSetAttnMask s
  | .clearCounters => Sys2Proof.Machine.execClearCounters s
  | .undefinedOrder => Sys2Proof.Machine.execUndefinedOrder s
  | .traverseStep => Sys2Proof.Machine.execTraverseStep s
  | .forwardCutStep => Sys2Proof.Machine.execForwardCutStep s
  | .gapSample a => Sys2Proof.Machine.execGapSample a s
  | .retractStep => Sys2Proof.Machine.execRetractStep s
  | .replayStep => Sys2Proof.Machine.execReplayStep s
  | .stallTimerExpiry => Sys2Proof.Machine.execStallTimerExpiry s
  | .severTimerExpiry => Sys2Proof.Machine.execSeverTimerExpiry s
  | .annealTimerExpiry a => Sys2Proof.Machine.execAnnealTimerExpiry a s
  | .jetOkRise a => Sys2Proof.Machine.execJetOkRise a s
  | .jetTimeout => Sys2Proof.Machine.execJetTimeout s
  | .pickupRise => Sys2Proof.Machine.execPickupRise s
  | .feedTimeout => Sys2Proof.Machine.execFeedTimeout s
  | .jetOkFall => Sys2Proof.Machine.execJetOkFall s
  | .wireOkRise => Sys2Proof.Machine.execWireOkRise s
  | .captureTimeout => Sys2Proof.Machine.execCaptureTimeout s
  | .withdrawEnd => Sys2Proof.Machine.execWithdrawEnd s
  | .wireOkFall => Sys2Proof.Machine.execWireOkFall s
  | .unthreadTimerExpiry => Sys2Proof.Machine.execUnthreadTimerExpiry s
  | .recordWaitEnd => Sys2Proof.Machine.execRecordWaitEnd s
  | .ownSlotArrival a b => Sys2Proof.Machine.execOwnSlotArrival a b s
  | .frameSent a => Sys2Proof.Machine.execFrameSent a s
  | .readbackMismatch => Sys2Proof.Machine.execReadbackMismatch s
  | .frameReceived a b => Sys2Proof.Machine.execFrameReceived a b s
  | .lineStuckTimeout => Sys2Proof.Machine.execLineStuckTimeout s
  | .stuckClear => Sys2Proof.Machine.execStuckClear s
  | .threadWarningExpiry => Sys2Proof.Machine.execThreadWarningExpiry s
  | .eraseEnd => Sys2Proof.Machine.execEraseEnd s
  | .writeEnd a => Sys2Proof.Machine.execWriteEnd a s
  | .addrIn a => Sys2Proof.Machine.execAddrIn a s
  | .wordIn a => Sys2Proof.Machine.execWordIn a s
  | .wordOut => Sys2Proof.Machine.execWordOut s
  | .hold => Sys2Proof.Machine.execHold s
  | .powerLoss => Sys2Proof.Machine.execPowerLoss s

end Sys2Proof.Machine
end

