-- ==== Sys2Proof/Safety.lean ====
section
/-! DEFINITION. The bounds the manual gives the state, as invariants, and when the row of a timer is due
(log 3). -/

namespace Sys2Proof.Safety

open Sys2Proof.Machine

/-! ## Bounds -/

/-- R183: at most 8 entries, never two for the same word. -/
def QueueOk (s : State) : Prop :=
  s.prs.queue.length ≤ Config.queueCapacity ∧ (s.prs.queue.map (·.word)).Nodup

/-- R52, R54: the accumulator lies in 0 to 8184, and To in 0 to 1023. -/
def GapOk (s : State) : Prop := s.gc.acc ≤ 8184 ∧ s.cfg.tOpen ≤ 1023

/-- R22: both coordinates lie in -1,048,575 to 1,048,575. -/
def PositionOk (s : State) : Prop :=
  -Config.coordLimit ≤ s.pe.posX ∧ s.pe.posX ≤ Config.coordLimit
    ∧ -Config.coordLimit ≤ s.pe.posY ∧ s.pe.posY ≤ Config.coordLimit

/-- A mode of a retract episode (R50). -/
def inEpisode (m : GapMode) : Prop :=
  m = .retracting ∨ m = .replaying ∨ m = .stalledTiming ∨ m = .stalledStuck

/-- R60: log and stack hold at most 256 entries together, outside an episode the stack is empty, and a retract step
is asked for in RETRACTING alone. -/
def ListsOk (s : State) : Prop :=
  s.gc.log.length + s.gc.redo.length ≤ Config.logCapacity ∧ (s.gc.redo ≠ [] → inEpisode s.gc.mode)
    ∧ (s.gc.asked = true → s.gc.mode = .retracting)

/-- R153, R159: an entry's missed rounds reach 16, and its attributed releases never exceed its cumulative ones. -/
def PeerOk (p : Peer) : Prop := p.missed ≤ 16 ∧ p.attributed ≤ p.cumulative ∧ p.cumulative ≤ 65535

/-- Every entry of the table (R153, R159). -/
def PeersOk (s : State) : Prop := ∀ e ∈ s.pva.peers, PeerOk e.2

/-- R149, R159, R147, R85: the counters stay in their ranges. -/
def CountersOk (s : State) : Prop :=
  s.cli.collision ≤ 65535 ∧ s.cli.crc ≤ 65535 ∧ s.cli.dup ≤ 65535 ∧ s.cli.stray ≤ 65535
    ∧ s.pva.errors ≤ 65535 ∧ s.cli.quiet ≤ Config.quietLimit ∧ s.tu.failed ≤ Config.failedLimit

/-- Every addressed store is in its canonical form. -/
def StoresOk (s : State) : Prop :=
  Memory.wf 0#32 s.js.mem = true ∧ Memory.wf 0 s.js.lengths = true ∧ Memory.wf (0, 0) s.js.holds = true
    ∧ Memory.wf 0#16 s.prs.nv = true ∧ Memory.wf 0 s.pva.tally = true
    ∧ Memory.wf Peer.never s.pva.peers = true ∧ Memory.wf Held.dropped s.ps.held = true

/-! ## When a row is due -/

/-- The timer of a row has run out, on the model's clock; true of a row that has no timer (log 3). The stuck timer's row
is due once the timer exceeds its limit (R146). -/
def due (c : Instr) (s : State) : Bool :=
  let stage : Bool :=
    match stageLimit s.cfg s.tu.mode s.tu.stage with
    | some l => ranOut s.now s.tu.timer l
    | none => false
  let stepDue (timer : Option Nat) (interval : Option Nat) : Bool :=
    match interval with
    | some i => ranOut s.now timer (i * Config.ticksPerUs)
    | none => false
  match c with
  | .traverseStep => stepDue s.pe.stepTimer (traverseInterval s.cfg)
  | .forwardCutStep => stepDue s.pe.stepTimer (feedInterval s)
  | .retractStep => s.gc.asked || stepDue s.gc.stepTimer (retractInterval s.cfg)
  | .replayStep => stepDue s.gc.stepTimer (feedInterval s)
  | .stallTimerExpiry => ranOut s.now s.gc.stallTimer (stallLimit s.cfg)
  | .severTimerExpiry | .annealTimerExpiry _ | .jetTimeout | .feedTimeout | .captureTimeout | .withdrawEnd
  | .unthreadTimerExpiry => stage
  | .eraseEnd | .writeEnd _ => ranOut s.now s.prs.timer arrayLimit
  | .threadWarningExpiry => ranOut s.now s.pva.intent.warnTimer (warnLimit s.cfg)
  | .lineStuckTimeout => ranOut s.now s.cli.stuckTimer (stuckLimit + 1)
  | .stuckClear => decide (s.cli.mode = .stuck) && ranOut s.now s.cli.releasedAt (round s.cfg)
  | .ownSlotArrival t _ => decide (s.cli.nextSlot = some t)
  | .frameSent t =>
    match s.cli.lastSlot with
    | some l => decide (t = l + Config.frameTicks)
    | none => false
  | _ => true

end Sys2Proof.Safety
end

