-- ==== Sys2Proof/Certificates/Slice0/Obligations.lean ====
section
/-! DEFINITION. The statements for the provers. -/

namespace Sys2Proof.Statements

open Sys2Proof.Machine

/-- An ORDER edge that is taken: after the start-up completion, with the marker clear and the code in the port word
(R196, R202). -/
def OrderArrives (code : Nat) (s : State) : Prop :=
  s.power = .ready ∧ s.jp.marker = false ∧ orderCode s.jp.word = code

/-- The port after an ORDER edge that was answered (R196, R202). -/
def portAfter (a : Answer) (jp : JobPort) : JobPort :=
  { jp with lastMode := .order, jdat := none, marker := true, answer := a, answers := jp.answers + 1 }

/-- Nothing changes but the port, which holds the answer. -/
def answeredOnly (a : Answer) (s : State) : State := { s with jp := portAfter a s.jp }

/-- The Part Sequencer of a job just halted by HALT (R109). -/
def halted (ps : Sequencer) : Sequencer :=
  { ps with job := .halted, reason := .host, headBeforeHalt := ps.head, head := .parked }

/-- The Part Sequencer of a job just resumed (R110). -/
def resumed (ps : Sequencer) : Sequencer := { ps with job := .running, reason := .none }

/-- The line with the frame on it, if any, no longer announcing an intent (R140). -/
def noLongerLive (c : CellLine) : CellLine := { c with sending := c.sending.map fun x => { x with live := false } }

/-- A new intent of a kind at an instant (R164). -/
def newIntent (kind : IntentKind) (now : Nat) : Intent :=
  { kind := kind, ageToSend := 0, lastAge := none, firstAt := none
    warnTimer := if kind = .thread then some now else none }

/-- A stage of the Threading Unit entered at an instant. -/
def inStage (st : Stage) (now : Nat) (tu : ThreadUnit) : ThreadUnit := { tu with stage := st, timer := some now }

/-- The unit after an attempt that failed (R95). -/
def failedAttempt (now : Nat) (tu : ThreadUnit) : ThreadUnit :=
  { tu with stage := .withdraw, failed := min 8 (tu.failed + 1), timer := some now }

/-- The unit in IDLE with no line driven (R96, R98, R103). -/
def lineless (tu : ThreadUnit) : ThreadUnit := { tu with stage := .idle, mode := .none, timer := none }

/-- An address in one of the four tables (R1). -/
def InTables (a : Nat) : Prop :=
  a ≤ 0x0003 ∨ (0x0040 ≤ a ∧ a ≤ 0x017F) ∨ (0x0200 ≤ a ∧ a ≤ 0x03FF) ∨ (0x1000 ≤ a ∧ a ≤ 0x2FFF)

/-- Every port edge is taken: reset released (R195). -/
def Awake (s : State) : Prop := s.power = .starting ∨ s.power = .ready

/-- The flags with one more set. -/
def flagged (b : Nat) (jp : JobPort) : JobPort := { jp with flags := withFlag jp.flags b }

/-- The rows of the orders, each with its code (R213). -/
def orderRows : List (Nat × Instr) :=
  [ (0x01, .arm), (0x02, .start), (0x03, .halt), (0x04, .resume), (0x05, .skipPart), (0x06, .abort)
  , (0x10, .setPositionX), (0x11, .setPositionY), (0x20, .newPlate), (0x21, .writeConfig), (0x30, .clearFlags)
  , (0x31, .setAttnMask), (0x32, .clearCounters) ]

/-- A word shows its fields, each (lowest bit, width, value), and 0 in every bit outside them (R208 to R212). -/
def Shows (w : Word) (fields : List (Nat × Nat × Nat)) : Prop :=
  (∀ f ∈ fields, field w f.1 f.2.1 = f.2.2 % 2 ^ f.2.1)
    ∧ ∀ b, b < 32 → (∀ f ∈ fields, b < f.1 ∨ f.1 + f.2.1 ≤ b) → w.getLsbD b = false

/-- The configuration fields that have a range narrower than their width: word, lowest bit, width, least and greatest
value (R191, R212). -/
def rangedFields : List (Nat × Nat × Nat × Nat × Nat) :=
  [ (1, 0, 5, 1, 16), (2, 0, 3, 1, 4), (2, 4, 4, 1, 15), (2, 8, 4, 1, 8), (2, 12, 4, 1, 8), (4, 0, 16, 0, 1023)
  , (5, 0, 16, 0, 1023), (6, 0, 16, 0, 1023), (7, 0, 8, 8, 128), (7, 8, 8, 1, 255), (8, 0, 8, 1, 255), (8, 8, 4, 1, 7)
  , (8, 12, 4, 1, 7), (9, 0, 8, 10, 255), (9, 8, 8, 5, 100), (10, 0, 8, 1, 255), (10, 8, 4, 1, 7), (11, 0, 16, 1, 1000)
  , (12, 0, 16, 1, 1000), (13, 0, 16, 1, 65535), (14, 0, 8, 1, 255) ]

/-- `len` bits of a configuration word from bit `lo`, as a number (R212). -/
def bitsOf (w : Half) (lo len : Nat) : Nat := w.toNat / 2 ^ lo % 2 ^ len

/-- A value brought into a range (R191). -/
def bring (least most v : Nat) : Nat := if v < least then least else if most < v then most else v

/-- The parameters that configuration words give, field by field (R191, R212); `inOrder`: the thresholds are (R54). -/
def clamped (w : Nat → Half) (inOrder : Bool) : Params :=
  { cellSize := bring 1 16 (bitsOf (w 1) 0 5), stationOffset := bitsOf (w 1) 8 4
    jetLimit := bring 1 4 (bitsOf (w 2) 0 3), dropLimit := bring 1 15 (bitsOf (w 2) 4 4)
    zx := bring 1 8 (bitsOf (w 2) 8 4), zy := bring 1 8 (bitsOf (w 2) 12 4)
    eovr := bitsOf (w 3) 0 4, recoverySteps := bitsOf (w 3) 8 8
    enThread := decide (bitsOf (w 3) 4 1 = 1), enRelease := decide (bitsOf (w 3) 5 1 = 1)
    enRecovery := decide (bitsOf (w 3) 6 1 = 1)
    ts := if inOrder then bring 0 1023 (w 4).toNat else 180
    gt := if inOrder then bring 0 1023 (w 5).toNat else 400
    tOpen := if inOrder then bring 0 1023 (w 6).toNat else 780
    retractMax := bring 8 128 (bitsOf (w 7) 0 8), retractRate := bring 1 255 (bitsOf (w 7) 8 8)
    shortHold := bring 1 255 (bitsOf (w 8) 0 8), threadTries := bring 1 7 (bitsOf (w 8) 8 4)
    kerfTries := bring 1 7 (bitsOf (w 8) 12 4), annealTime := bring 10 255 (bitsOf (w 9) 0 8)
    feedTimeout := bring 5 100 (bitsOf (w 9) 8 8), releaseWait := bring 1 255 (bitsOf (w 10) 0 8)
    releaseAttempts := bring 1 7 (bitsOf (w 10) 8 4), xmax := bring 1 1000 (w 11).toNat
    ymax := bring 1 1000 (w 12).toNat, rapidRate := bring 1 65535 (w 13).toNat
    threadAdmitWarn := bring 1 255 (bitsOf (w 14) 0 8), attnMask := w 15 }

/-- Two zones are neighbours on a grid of `zx` columns: columns and rows differ by at most 1 (R75). -/
def Neighbours (zx a b : Nat) : Prop :=
  ((a % zx : Nat) - (b % zx : Nat) : Int).natAbs ≤ 1 ∧ ((a / zx : Nat) - (b / zx : Nat) : Int).natAbs ≤ 1

/-- A peer shows a head state near a zone: heard lately, not foreign, in a neighbouring zone (R75, R169, R170). -/
def ShowsNear (zx zone : Nat) (h : HeadState) (e : Peer) : Prop :=
  (e.live = .fresh ∨ e.live = .stale) ∧ e.isForeign = false ∧ e.head.toNat = headCode h
    ∧ Neighbours zx e.zone.toNat zone

/-- A peer near the pass part announces a head state (R75). -/
def PeerNear (h : HeadState) (s : State) : Prop :=
  ∃ e ∈ s.pva.peers, ShowsNear s.cfg.zx (s.js.part s.pe.passPart).zone h e.2

/-- A peer stands ahead of the own intent as last announced: a STALE one whatever the ages, a FRESH one by the greater
age, or at equal ages by the lower station (R167). -/
def Ahead (s : State) (age : Nat) (e : Nat × Peer) : Prop :=
  e.2.live = .stale
    ∨ (e.2.live = .fresh ∧ (age < e.2.age.toNat ∨ (e.2.age.toNat = age ∧ e.1 < s.cli.station)))

/-- The releases of a peer that weigh on every zone: none of one never heard or foreign (R162). -/
def unattributedOf (e : Peer) : Nat :=
  if e.live = .never ∨ e.isForeign = true then 0 else e.cumulative - e.attributed

/-- An intent announced at an instant with its age to send, which the frame carries in four bits (R138, R165). -/
def announcedAt (now : Nat) (i : Intent) : Intent :=
  { i with
      lastAge := some (i.ageToSend % 16)
      firstAt := if i.lastAge = none then some now else i.firstAt
      ageToSend := min 15 (i.ageToSend % 16 + 1) }

/-- The intent after an own slot that ends it not: announced in SOLO and NO_SLOT while the head waits, else as it was
(R140, R150, R151). -/
def intentAtSlot (now : Nat) (s : State) : Intent :=
  if (s.cli.mode = .solo ∨ s.cli.mode = .noSlot) ∧ (s.ps.head = .waitThread ∨ s.ps.head = .waitRelease) then
    announcedAt now s.pva.intent
  else s.pva.intent

/-- The peer link condition found at an own slot is LOST or NO_SLOT (R147, R148). -/
def linkDown (c : CellLine) : Bool :=
  decide (c.mode = .noSlot) || (decide (c.mode ≠ .solo) && !c.heard && decide (15 ≤ c.quiet))

/-- The flags as the quiet count leaves them at an own slot: LINE_LOST as it reaches 16 (R147). -/
def quietFlags (s : State) : Half :=
  if s.cli.mode ≠ .solo ∧ s.cli.heard = false ∧ s.cli.quiet = 15 then withFlag s.jp.flags flagLineLost
  else s.jp.flags

/-- A pass ended as SKIP_PART ends one, a retract step already asked for completed (R38, R71, R77). -/
def passEnded (s : State) : State :=
  let u := completeAsked s
  { s with
      pe := { u.pe with
        engine := .standby, passKind := .none, sub := none, remembered := none, awaiting := false, stepTimer := none }
      gc := { u.gc with
        mode := .idle, halted := false, asked := false, log := [], redo := [], stepTimer := none, stallTimer := none }
      eg := { s.eg with recovery := 0 } }

/-- The update of a part to a state, with its zone (R115). -/
def updateTo (r : RecState) (p : Nat) (s : State) : PartUpdate :=
  { part := p, state := r, zone := (s.js.part p).zone, defer := false }

/-- The flags with those of a result set (R117). -/
def withResult (r : RecState) (flags : Half) : Half :=
  if r = .held then withFlag (withFlag flags flagPartDone) flagPartHeld
  else if r = .tabbed ∨ r = .released ∨ r = .abandoned then withFlag flags flagPartDone
  else flags

/-- An update of the Part Sequencer has joined the queue, and all that goes with it is noted: the held state (R115), the
flags (R117), the deferred list (R121), and the counts of a release (R122). -/
def noted (u : PartUpdate) (s : State) : State :=
  { s with
      prs := s.prs.join s.now u.part (recordWord u.state u.zone) false
      ps := { s.ps with
        held := Memory.write Held.dropped u.part (.state u.state) s.ps.held
        deferred := if u.defer then s.ps.deferred ++ [(u.part, 1)] else s.ps.deferred
        ownCount := if u.state = .released then s.ps.ownCount + 1 else s.ps.ownCount
        lastRelease := if u.state = .released then some u.zone else s.ps.lastRelease }
      pva := { s.pva with
        tally := if u.state = .released then
            Memory.write 0 u.zone (min 255 (Memory.read 0 s.pva.tally u.zone + 1)) s.pva.tally
          else s.pva.tally }
      jp := { s.jp with flags := withResult u.state s.jp.flags } }

/-! ### The walk -/

/-- The lowest number from `n` on of which something holds. -/
def FirstFrom (n : Nat) (P : Nat → Prop) (p : Nat) : Prop := n ≤ p ∧ P p ∧ ∀ q, n ≤ q → q < p → ¬ P q

/-- A mark pointer names the first of a part's marks, from relative index `n` on, whose fired flag is clear, and is none
where there is none (R34, R35). -/
def PointsAtUnfired (fired : BitVec 256) (e : PartEntry) (n : Nat) (ptr : Option Nat) : Prop :=
  let unfired (m : Nat) : Prop := m < e.markCount ∧ fired.getLsbD (e.firstMark + m) = false
  (∀ m, ptr = some m → FirstFrom n unfired m) ∧ (ptr = none → ∀ m, n ≤ m → ¬ unfired m)

/-- The rough pass over a part has been loaded and runs (R34, R58, R71, R73, R77, R119). -/
def RoughPassRuns (p : Nat) (s t : State) : Prop :=
  let e := s.js.part p
  t.pe.engine = .pass ∧ t.pe.passPart = p ∧ t.pe.passKind = .rough ∧ t.pe.sub = some .run ∧ t.pe.seg = 0
    ∧ t.pe.off = 0 ∧ t.pe.fired = s.pe.fired ∧ PointsAtUnfired s.pe.fired e 0 t.pe.markPtr
    ∧ t.pe.stepTimer = some s.now ∧ t.gc.mode = .feeding ∧ t.gc.limit = e.fmax ∧ t.eg.primary = e.eprim
    ∧ t.eg.recovery = 0 ∧ t.ps.head = .cutting ∧ t.ps.activity = .passing

/-- A part of the job is held in a state (R115). -/
def HeldAs (r : RecState) (s : State) (p : Nat) : Prop :=
  p < s.js.partCount ∧ Memory.read Held.dropped s.ps.held p = .state r

/-- A part that the release phase's table pass takes (R123). -/
def Releasable (s : State) (p : Nat) : Prop :=
  HeldAs .tabbed s p ∧ ((s.js.part p).policy = policyDrop ∨ (s.js.part p).policy = policyTabRelease)
    ∧ ∀ d ∈ s.ps.deferred, d.1 ≠ p

/-- The budget of a part's zone passes (R163). -/
def BudgetOk (s : State) (p : Nat) : Prop :=
  Memory.read 0 s.pva.tally (s.js.part p).zone + unattributed s.pva < s.cfg.dropLimit

/-- The head sent to a target, or waiting for the jet where it stands there already (R30, R31, R114). -/
def sentTo (target : Int × Int) (p : Purpose) (s : State) : State :=
  if s.pe.posX = target.1 ∧ s.pe.posY = target.2 then
    { s with
        pe := { s.pe with engine := .standby, traverse := none, stepTimer := none }
        ps := { s.ps with head := .waitThread, activity := .waitThread p }
        pva := { s.pva with intent := newIntent .thread s.now } }
  else
    { s with
        pe := { s.pe with
          engine := .traverse, stepTimer := some s.now
          traverse := some { sx := s.pe.posX, sy := s.pe.posY, tx := target.1, ty := target.2, moving := true } }
        ps := { s.ps with head := .traverse, activity := .traversing p } }

/-- A part of the rough phase taken up: the head goes to its start hole (R118). -/
def roughTaken (p : Nat) (s : State) : State :=
  let e := s.js.part p
  sentTo (e.startX, e.startY) .startHole
    { s with ps := { s.ps with current := some p, attempts := none, scan := p + 1, takenZone := e.zone } }

/-- A part of the release phase taken up with the attempts it has had: the head goes to its hold position (R125). -/
def releaseTaken (p : Nat) (attempts : Option Nat) (s : State) : State :=
  sentTo (s.js.holdAt p) .releaseKerf
    { s with ps := { s.ps with current := some p, attempts := attempts, takenZone := (s.js.part p).zone } }

/-- The job is DONE: JOB_DONE is set and no part state is held (R112, R188). -/
def jobDone (s : State) : State :=
  { s with
      ps := { s.ps with job := .done, phase := .none, current := none, attempts := none, head := .idle
                        activity := .none, held := [] }
      pe := { s.pe with engine := .idle }
      jp := flagged flagJobDone s.jp }

/-- The walk stands at a part boundary: halted for a record fault, or waiting for RESUME (R109, R131). The part just
finished stays the current one, which is the model's choice (log 44). -/
def atBoundary (s : State) : State :=
  if s.ps.marker then
    { s with ps := { s.ps with
        marker := false, job := .halted, reason := .record, head := .parked, activity := .boundary } }
  else { s with ps := { s.ps with activity := .boundary } }

/-- The release phase goes on: the next part of the table pass, then the front of the deferred list with its attempts
(R123). Where the budget of its zone passes the part is taken up. Where it fails the part is HELD: the update joins and
the phase goes on with the next, or halts for a record fault; or it waits for queue room, the head as it was but for an
intent or a threading that has ended, which the model chooses (log 45), the part not becoming the current one (log 44).
With none left the job is DONE (R112, R124, R131). `n` bounds the parts that are followed: the table pass and the list
have 64 each at most (R127). -/
def ReleaseGoesOn : Nat → Result → State → Prop
  | 0, _, _ => True
  | n + 1, r, s =>
    let takes (p : Nat) (attempts : Option Nat) (chosen : State) : Prop :=
      let u := updateTo .held p s
      let tried : State := { chosen with ps := { chosen.ps with takenZone := u.zone } }
      (BudgetOk s p → r = .next (releaseTaken p attempts chosen))
      ∧ (¬ BudgetOk s p → s.prs.canJoin p = true →
        (s.ps.marker = true → r = .next (atBoundary (noted u tried)))
        ∧ (s.ps.marker = false → ReleaseGoesOn n r (noted u tried)))
      ∧ (¬ BudgetOk s p → s.prs.canJoin p = false →
        r = .next { tried with ps := { tried.ps with
          head := if s.ps.head = .waitThread ∨ s.ps.head = .threading ∨ s.ps.head = .waitRelease then .idle
                  else s.ps.head
          activity := .recordWait u .nextPart false } })
    let passMade : Prop := ∀ q, s.ps.scan ≤ q → ¬ Releasable s q
    (∀ p, FirstFrom s.ps.scan (Releasable s) p → takes p none { s with ps := { s.ps with scan := p + 1 } })
    ∧ (∀ p k rest, passMade → s.ps.deferred = (p, k) :: rest →
      takes p (some k) { s with ps := { s.ps with scan := s.js.partCount, deferred := rest } })
    ∧ (passMade → s.ps.deferred = [] → r = .next (if s.ps.marker then atBoundary s else jobDone s))

/-- The walk goes on to the next UNCUT part, or to the release phase, and a result is what follows (R118, R123). -/
def WalksOn (r : Result) (s : State) : Prop :=
  (∀ p, s.ps.phase = .rough → FirstFrom s.ps.scan (HeldAs .uncut s) p → r = .next (roughTaken p s))
  ∧ (s.ps.phase = .rough → (∀ q, s.ps.scan ≤ q → ¬ HeldAs .uncut s q) →
    ReleaseGoesOn 129 r { s with ps := { s.ps with phase := .release, scan := 0 } })
  ∧ (s.ps.phase = .release → ReleaseGoesOn 129 r s)

/-- A part is finished in a state, and a result is what follows: a halt for a record fault, the wait for RESUME, or the
walk (R109, R118, R123, R131). -/
def GoesOn (r : Result) (s : State) : Prop :=
  ((s.ps.marker = true ∨ s.ps.job ≠ .running) → r = .next (atBoundary s))
  ∧ (s.ps.marker = false → s.ps.job = .running → WalksOn r s)

/-- The unit with an unthread begun at an instant (R104). -/
def unthreadingSince (now : Nat) (tu : ThreadUnit) : ThreadUnit :=
  { tu with stage := .unthread, mode := .none, timer := some now }

/-- The current part's result has not been queued (R130). That an update which has joined in a record wait ends the
wait, so that a CUTTING there leaves the part unsettled, is the model's inference (log 12). -/
def Unsettled (a : Activity) : Prop :=
  (∃ u, a = .traversing u ∨ a = .waitThread u ∨ a = .threading u) ∨ a = .passing ∨ a = .waitRelease
    ∨ a = .recordJoined .loadRough ∨ a = .recordJoined .threadAgain
    ∨ ∃ u, a = .recordWait u .loadRough true ∨ a = .recordWait u .threadAgain true

/-- A peer entry when the announced identity changes: one never heard stands, one of another plate is foreign, and one
whose foreign flag clears starts its release counting afresh at its last release count (R156, R157, R174). -/
def atIdentity (arg : Half) (e : Peer) : Peer :=
  if e.live = .never then e
  else if e.plate ≠ arg then { e with isForeign := true }
  else if e.isForeign = true then { e with isForeign := false, cumulative := e.last.toNat, attributed := 0 }
  else e

/-! ### The checks of ARM, as the manual gives them -/

/-- The conditions of check 3 on one part (R13). -/
def PartGood (c : Params) (js : JobStore) (p : Nat) : Prop :=
  let e := js.part p
  e.policy ≤ 2 ∧ e.zone < c.zx * c.zy ∧ 1 ≤ e.eprim ∧ e.eprim ≤ 15 ∧ 1 ≤ e.fmax ∧ e.fmax ≤ 60000
    ∧ (0 ≤ e.startX ∧ e.startX ≤ (c.xmax * 1000 : Nat) ∧ 0 ≤ e.startY ∧ e.startY ≤ (c.ymax * 1000 : Nat))
    ∧ 1 ≤ e.segCount ∧ e.firstSeg + e.segCount ≤ js.segmentCount
    ∧ 1 ≤ e.markCount ∧ e.markCount ≤ 8 ∧ e.firstMark + e.markCount ≤ js.markCount
    ∧ (∀ q, q < p → e.firstSeg + e.segCount ≤ (js.part q).firstSeg
        ∨ (js.part q).firstSeg + (js.part q).segCount ≤ e.firstSeg)
    ∧ (∀ q, q < p → e.firstMark + e.markCount ≤ (js.part q).firstMark
        ∨ (js.part q).firstMark + (js.part q).markCount ≤ e.firstMark)
    ∧ ∃ m, m < e.markCount ∧ ∀ j, j < e.markCount → ((js.mark (e.firstMark + j)).kind = markHold ↔ j = m)

/-- Where relative segment `k` of part `p` starts (R4). -/
def startOf (js : JobStore) (p k : Nat) : Int × Int :=
  let e := js.part p
  if k = 0 then (e.startX, e.startY)
  else ((js.segment (e.firstSeg + (k - 1))).endX, (js.segment (e.firstSeg + (k - 1))).endY)

/-- The conditions of check 4 on relative segment `v.2` of part `v.1` (R14). -/
def SegmentGood (c : Params) (js : JobStore) (v : Nat × Nat) : Prop :=
  let g := js.segment ((js.part v.1).firstSeg + v.2)
  g.kind ≤ 2 ∧ (0 ≤ g.endX ∧ g.endX ≤ (c.xmax * 1000 : Nat) ∧ 0 ≤ g.endY ∧ g.endY ≤ (c.ymax * 1000 : Nat))
    ∧ (g.kind = segLine → (g.endX, g.endY) ≠ startOf js v.1 v.2)

/-- The lengths with those of the visited segments written, |Δx| + |Δy| each (R14). -/
def lengthsOf (js : JobStore) (vs : List (Nat × Nat)) (lengths : Memory Nat) : Memory Nat :=
  vs.foldl (fun m v =>
    let n := (js.part v.1).firstSeg + v.2
    let start := startOf js v.1 v.2
    Memory.write 0 n (((js.segment n).endX - start.1).natAbs + ((js.segment n).endY - start.2).natAbs) m) lengths

/-- The conditions of check 5 on an arc (R15): the centre within the coordinates, the end not the start, both ends in
one closed quadrant of the centre, the turn by the arc's sense, and the end on the circle to within its tolerance. -/
def ArcGood (js : JobStore) (v : Nat × Nat) : Prop :=
  let g := js.segment ((js.part v.1).firstSeg + v.2)
  let start := startOf js v.1 v.2
  let us := start.1 - g.cenX
  let vs := start.2 - g.cenY
  let ue := g.endX - g.cenX
  let ve := g.endY - g.cenY
  let rr := us * us + vs * vs
  (-1048575 ≤ g.cenX ∧ g.cenX ≤ 1048575 ∧ -1048575 ≤ g.cenY ∧ g.cenY ≤ 1048575)
    ∧ (g.endX, g.endY) ≠ start ∧ 0 ≤ us * ue ∧ 0 ≤ vs * ve
    ∧ (g.kind = segArcCcw → 0 < us * ve - vs * ue) ∧ (g.kind = segArcCw → us * ve - vs * ue < 0)
    ∧ ∃ r : Nat, (r * r : Nat) ≤ rr ∧ rr < ((r + 1) * (r + 1) : Nat) ∧ (ue * ue + ve * ve - rr).natAbs ≤ 2 * r + 1

/-- The progress count of a part's mark `m` (R5). -/
def countOf (js : JobStore) (p m : Nat) : Nat :=
  let e := js.part p
  let mk := js.mark (e.firstMark + m)
  ((List.range mk.relSeg).map fun k => js.length (e.firstSeg + k)).sum + mk.offset

/-- The conditions of check 6 on mark `v.2` of part `v.1` (R16). -/
def MarkGood (js : JobStore) (v : Nat × Nat) : Prop :=
  let e := js.part v.1
  let mk := js.mark (e.firstMark + v.2)
  mk.kind ≤ 2 ∧ (mk.kind = markEnergy → 1 ≤ mk.value ∧ mk.value ≤ 15)
    ∧ (mk.kind = markFeed → 1 ≤ mk.value ∧ mk.value ≤ 60000)
    ∧ mk.relSeg < e.segCount ∧ mk.offset < js.length (e.firstSeg + mk.relSeg)
    ∧ (if v.2 = 0 then 0 else countOf js v.1 (v.2 - 1)) < countOf js v.1 v.2

/-- The hold positions with those of the visited HOLD marks written, each traced along its segment (R17). -/
def holdsOf (js : JobStore) (vs : List (Nat × Nat)) (holds : Memory (Int × Int)) : Memory (Int × Int) :=
  vs.foldl (fun h v =>
    let e := js.part v.1
    let mk := js.mark (e.firstMark + v.2)
    if mk.kind = markHold then
      Memory.write (0, 0) v.1
        (traceSegment (js.segment (e.firstSeg + mk.relSeg)) (startOf js v.1 mk.relSeg) mk.offset
          (startOf js v.1 mk.relSeg)) h
    else h) holds

end Sys2Proof.Statements

open Sys2Proof Sys2Proof.Machine Sys2Proof.Safety Sys2Proof.Statements

/-! ## The step -/

/-- A step takes the command at the front and runs it on the state with the queue's rest. -/
def Obligations.StepRunsFront : Prop :=
  ∀ (c : Instr) (rest : List Instr) (s : State), step (s.setPending (c :: rest)) = exec c (s.setPending rest)

/-- Every command has a next state, also in a state in which its event cannot arise (the model's DESIGN CHOICE, log 2),
and leaves the queue as it was (the queue is the model's, log 36). -/
def Obligations.EveryCommandAnswers : Prop :=
  ∀ (c : Instr) (s : State), ∃ t, exec c s = .next t ∧ t.pending = s.pending

/-! ## Reset, release, start-up -/

/-- POWER_ON_RESET puts every block in its reset state and keeps the nonvolatile words; POWER_LOSS leaves the array as
a reset does (its other values are the model's, log 19). WARM_RESET finishes and counts a retract pulse already begun
(log 8) and keeps also the tables, the derived values, position, progress, count, mark pointer, fired flags, pass part
and the five counters. The model's own choices in the values: straps, station, value being written and NEW_PLATE
argument 0 and the own release count 0 until the start-up completion (log 28), pulse counters 0 (log 18), the head
before a halt IDLE (log 10), the input levels kept, false in a new machine (log 34), the pair's last release none (log
41), the clock from 0 (log 4), the new machine's words 0 and its RESET_N asserted (log 20). -/
def Obligations.Resets : Prop :=
  ∀ s : State,
    let t : State := { State.reset with
      pending := s.pending, now := s.now
      tu := { ThreadUnit.reset with jetOk := s.tu.jetOk, pickup := s.tu.pickup, wireOk := s.tu.wireOk }
      prs := { RecordStore.reset with nv := s.prs.nv } }
    let u := completeAsked s
    exec .powerOnReset s = .next t ∧ exec .powerLoss s = .next { t with power := .off }
    ∧ (s.power ≠ .off → exec .warmReset s = .next { t with
      js := { JobStore.reset with mem := s.js.mem, lengths := s.js.lengths, holds := s.js.holds }
      pe := { PathEngine.reset with
        posX := u.pe.posX, posY := u.pe.posY, passPart := s.pe.passPart, seg := u.pe.seg, off := u.pe.off
        count := u.pe.count, markPtr := s.pe.markPtr, fired := s.pe.fired }
      cli := { CellLine.reset with
        collision := s.cli.collision, crc := s.cli.crc, dup := s.cli.dup, stray := s.cli.stray }
      pva := { PeerView.reset with errors := s.pva.errors } })
    ∧ State.reset =
      { pending := [], now := 0, power := .held, cfg := Params.zero
        js := { mem := [], lengths := [], holds := [], armErr := .none, armIdx := 0, arm := .idle }
        pe := { engine := .idle, posX := 0, posY := 0, dirX := false, dirY := false, pulsesX := 0, pulsesY := 0
                traverse := none, passPart := 0, passKind := .none, sub := none, remembered := none, awaiting := false
                seg := 0, off := 0, count := 0, markPtr := some 0, fired := 0, stepTimer := none
                snap := { part := 0, kind := .none, seg := 0, off := 0, count := 0, x := 0, y := 0 } }
        gc := { acc := 0, cls := .short, mode := .idle, halted := false, asked := false, limit := 0, log := []
                redo := [], stepTimer := none, stallTimer := none }
        eg := { primary := 0, recovery := 0 }
        tu := { stage := .idle, mode := .none, failed := 0, timer := none, jetOk := false, pickup := false
                wireOk := false }
        ps := { job := .disarmed, phase := .none, reason := .none, current := none, attempts := none, head := .idle
                headBeforeHalt := .idle, activity := .none, held := [], scan := 0, deferred := [], ownCount := 0
                lastRelease := none, takenZone := 0, marker := false }
        cli := { strap := 0, station := 0, mode := .off, nextSlot := none, lastSlot := none, listenLeft := 0
                 sending := none, collision := 0, crc := 0, dup := 0, stray := 0, quiet := 0, heard := false
                 stuckTimer := none, releasedAt := none }
        pva := { peers := [], tally := [], errors := 0
                 intent := { kind := .none, ageToSend := 0, lastAge := none, firstAt := none, warnTimer := none } }
        prs := { nv := [], queue := [], stage := .none, writing := 0, retried := false, timer := none, feed := none
                 plateArg := 0, announced := 0 }
        jp := { lastMode := .hold, marker := false, addr := 0, word := 0, outBit := 31, jdat := none, answer := .none
                answers := 0, flags := 0, mask := 0 } }

/-- RESET_RELEASE latches the straps, puts the line in OFF and begins the start-up reading. -/
def Obligations.ResetRelease : Prop :=
  ∀ (strap : BitVec 4) (s : State), s.power = .held →
    exec (.resetRelease strap) s
      = .next { s with power := .starting, cli := { s.cli with strap := strap, mode := .off } }

/-- START_UP_COMPLETION hands out the parameters, each field clamped to its range and the thresholds replaced as a
whole where they are out of order, the mask, the identity, the own release count and the tally; sets CONFIG_CLAMPED
where a field was clamped or the thresholds replaced; chooses the line mode; and starts the slot timer, the first own
slot coming two rounds later in LISTEN and one round later in SOLO and NO_SLOT. The instant is the model's clock (log
4), and that LISTEN keeps a count of the own slots it still takes, here 1, its inference (log 35). -/
def Obligations.StartUpCompletion : Prop :=
  ∀ (t : Nat) (s : State), s.power = .starting →
    let w : Nat → Half := fun k => s.prs.nvWord (64 + k)
    let inOrder : Bool := decide (bring 0 1023 (w 4).toNat < bring 0 1023 (w 5).toNat
      ∧ bring 0 1023 (w 5).toNat < bring 0 1023 (w 6).toNat)
    let someClamped : Bool := rangedFields.any fun r =>
      decide (bring r.2.2.2.1 r.2.2.2.2 (bitsOf (w r.1) r.2.1 r.2.2.1) ≠ bitsOf (w r.1) r.2.1 r.2.2.1)
    ∃ u : State, exec (.startUpCompletion t) s = .next u
      ∧ u.power = .ready ∧ u.now = max s.now t ∧ u.cfg = clamped w inOrder
      ∧ u.jp.mask = s.prs.nvWord 79 ∧ u.prs.announced = s.prs.nvWord 64
      ∧ u.ps.ownCount = BitVec.ofNat 8
          ((List.range 64).countP fun p => decide (recordState (s.prs.nvWord p) = .released))
      ∧ (∀ z, Memory.read 0 u.pva.tally z = min 255 ((List.range 64).countP fun p =>
          decide (recordState (s.prs.nvWord p) = .released ∧ recordZone (s.prs.nvWord p) = z)))
      ∧ u.cli.station = (s.cli.strap.toNat + u.cfg.stationOffset) % 16
      ∧ u.cli.mode = (if u.cfg.cellSize = 1 then .solo
                      else if u.cfg.cellSize ≤ u.cli.station then .noSlot else .listen)
      ∧ u.cli.nextSlot = some (u.now + (if u.cli.mode = .listen then 2 else 1) * (u.cfg.cellSize * 128))
      ∧ u.cli.lastSlot = none ∧ u.cli.quiet = s.cli.quiet ∧ u.cli.sending = s.cli.sending
      ∧ (u.cli.mode = .listen → u.cli.listenLeft = 1)
      ∧ u.jp.flags = s.jp.flags
          ||| (if someClamped = true ∨ inOrder = false then 1#16 <<< 13 else 0)
          ||| (if u.cli.mode = .noSlot then 1#16 <<< 11 else 0)
      ∧ u.js = s.js ∧ u.pe = s.pe ∧ u.gc = s.gc ∧ u.tu = s.tu ∧ u.prs.nv = s.prs.nv

/-- An edge in ADDR-IN or WORD-IN shifts the register left by one place, discarding its most significant bit, and
enters the sampled bit at the low end, whatever it holds; so after any run of edges the register holds the last
sixteen, or thirty-two, bits of what it held with the run's bits behind it, the first bit highest. -/
def Obligations.ShiftIn : Prop :=
  (∀ (b : Bool) (s : State), Awake s →
    exec (.addrIn b) s = .next { s with jp := { s.jp with
      lastMode := .addrIn, jdat := none, addr := shiftIn s.jp.addr b } }
    ∧ exec (.wordIn b) s = .next { s with jp := { s.jp with
      lastMode := .wordIn, jdat := none, word := shiftIn s.jp.word b } })
  ∧ ∀ bs : List Bool,
    (∀ r : Half, bs.foldl shiftIn r = BitVec.ofNat 16 (r.toNat * 2 ^ bs.length + bitsToNat bs))
    ∧ ∀ r : Word, bs.foldl shiftIn r = BitVec.ofNat 32 (r.toNat * 2 ^ bs.length + bitsToNat bs)

/-! ## The Job Port -/

/-- An edge in WORD-OUT sets the counter to 31 after another mode, else steps it down, and drives the bit it
names. -/
def Obligations.WordOut : Prop :=
  ∀ s : State, Awake s →
    let k : BitVec 5 := if s.jp.lastMode = .wordOut then s.jp.outBit - 1 else 31
    exec .wordOut s = .next { s with jp := { s.jp with
      lastMode := .wordOut, outBit := k, jdat := some (s.jp.word.getLsbD k.toNat) } }

/-- A PUT stores the word whole at a store address in DISARMED and DONE, is refused by state in the other job
states and by address outside the tables; the answer is recorded and the address moves on.
Every other word reads as before. -/
def Obligations.PutStores : Prop :=
  ∀ s : State, Awake s → s.jp.marker = false →
    let after (a : Answer) : JobPort := { s.jp with
      lastMode := .put, jdat := none, marker := true, answer := a, answers := s.jp.answers + 1
      addr := s.jp.addr + 1 }
    (InTables s.jp.addr.toNat → (s.ps.job = .disarmed ∨ s.ps.job = .done) →
      let stored := Memory.write 0#32 s.jp.addr.toNat s.jp.word s.js.mem
      exec .put s = .next { s with jp := after .accepted, js := { s.js with mem := stored } }
      ∧ (Memory.wf 0#32 s.js.mem = true → ∀ a, Memory.read 0#32 stored a
          = if a = s.jp.addr.toNat then s.jp.word else Memory.read 0#32 s.js.mem a))
    ∧ (InTables s.jp.addr.toNat → s.ps.job ≠ .disarmed → s.ps.job ≠ .done →
      exec .put s = .next { s with jp := after .refusedState })
    ∧ (¬ InTables s.jp.addr.toNat → exec .put s = .next { s with jp := after .refusedArg })

/-- A GET loads the addressed item, moves the address on, and latches the snapshot at the first progress word
alone; a PEEK loads the status word and leaves the address. That the row of a GET carries the level of PICKUP and
notes it in tu.pickup is the model's DESIGN CHOICE (log 5). The map, word by word: the tables, the status words, the
configuration in use (0 before the start-up completion), the peer view, the tally and the record image, and 0 at every
other address. The model's own in the layouts: a group of bits read from the lowest up (log 16), the sub-state with no
pass loaded as 0 (log 17), and the word in flight with no update as 0 (log 28). -/
def Obligations.GetAndPeekLoad : Prop :=
  (∀ (pickup : Bool) (s : State), Awake s → s.jp.marker = false →
    let snapshot : Snapshot :=
      { part := s.pe.passPart, kind := s.pe.passKind, seg := s.pe.seg, off := s.pe.off, count := s.pe.count
        x := s.pe.posX, y := s.pe.posY }
    let u : State := { s with
      tu := { s.tu with pickup := pickup }
      jp := { s.jp with lastMode := .get, jdat := none, marker := true }
      pe := if s.jp.addr = 0xF001#16 then { s.pe with snap := snapshot } else s.pe }
    exec (.get pickup) s
      = .next { u with jp := { u.jp with word := mapRead u s.jp.addr.toNat, addr := s.jp.addr + 1 } }
    ∧ ∃ v : State, exec .peek s = .next { v with jp := { v.jp with word := mapRead v 0xF000 } }
        ∧ v = { s with jp := { s.jp with lastMode := .peek, jdat := none, marker := true } })
  ∧ ∀ s : State,
    let r : Nat → Word := mapRead s
    let link := if s.cli.mode = .solo then 3 else if s.cli.mode = .noSlot then 2 else if s.cli.quiet = 16 then 1 else 0
    let elsewhere (a : Nat) : Prop := (0xF000 ≤ a ∧ a ≤ 0xF01E) ∨ (0xF100 ≤ a ∧ a ≤ 0xF11F)
      ∨ (0xF140 ≤ a ∧ a ≤ 0xF17F) ∨ (0xF200 ≤ a ∧ a ≤ 0xF24F)
    (∀ a, InTables a → r a = Memory.read 0#32 s.js.mem a) ∧ (∀ a, ¬ InTables a → ¬ elsewhere a → r a = 0)
    ∧ Shows (r 0xF000)
        [ (0, 3, jobCode s.ps.job), (3, 2, phaseCode s.ps.phase), (5, 2, reasonCode s.ps.reason)
        , (7, 4, headCode s.ps.head), (11, 1, bit (decide (s.power = .ready)))
        , (12, 1, bit (decide (s.prs.feed ≠ none))), (13, 4, s.prs.queue.length), (17, 3, answerCode s.jp.answer)
        , (20, 4, s.jp.answers.toNat), (24, 1, bit (attn s)), (25, 3, lineModeCode s.cli.mode)
        , (28, 2, link), (30, 2, updateStageCode s.prs.stage) ]
    ∧ Shows (r 0xF001) [(0, 7, s.pe.snap.part), (7, 2, passKindCode s.pe.snap.kind), (12, 12, s.pe.snap.seg)]
    ∧ r 0xF002 = BitVec.ofNat 32 s.pe.snap.off ∧ r 0xF003 = BitVec.ofNat 32 s.pe.snap.count
    ∧ r 0xF004 = BitVec.ofInt 32 s.pe.snap.x ∧ r 0xF005 = BitVec.ofInt 32 s.pe.snap.y
    ∧ r 0xF006 = BitVec.ofInt 32 s.pe.posX ∧ r 0xF007 = BitVec.ofInt 32 s.pe.posY
    ∧ Shows (r 0xF008) [(0, 16, s.jp.flags.toNat), (16, 16, s.jp.mask.toNat)]
    ∧ Shows (r 0xF009) [(0, 16, s.cli.crc), (16, 16, s.cli.collision)]
    ∧ Shows (r 0xF00A) [(0, 16, s.cli.stray), (16, 16, s.cli.dup)]
    ∧ Shows (r 0xF00B) [(0, 16, min 65535 (unattributed s.pva)), (16, 16, s.pva.errors)]
    ∧ Shows (r 0xF00C) [(0, 4, armErrorCode s.js.armErr), (4, 12, s.js.armIdx), (16, 16, s.prs.announced.toNat)]
    ∧ Shows (r 0xF00D)
        [ (0, 2, engineCode s.pe.engine), (2, 2, subCode s.pe.sub), (4, 3, gapModeCode s.gc.mode)
        , (7, 1, bit (decide (s.gc.mode = .stalledStuck))), (8, 1, bit s.gc.halted), (9, 2, gapClassCode s.gc.cls)
        , (11, 10, s.gc.acc / 8), (21, 4, s.eg.primary), (25, 4, eact s), (29, 1, bit (peerThreadNear s))
        , (30, 1, bit (peerReleaseNear s)), (31, 1, bit (decide (0 < s.eg.recovery))) ]
    ∧ Shows (r 0xF00E)
        [ (0, 4, energyLines s), (4, 1, bit (pulseEn s)), (5, 1, bit (lineCut s.tu.stage))
        , (6, 1, bit (lineAnneal s.tu.stage)), (7, 1, bit (lineJet s.tu.stage)), (8, 1, bit (lineFeed s.tu.stage))
        , (9, 1, bit (lineWithdraw s.tu.stage)), (10, 1, bit (lineTension s.tu.stage)), (11, 4, stageCode s.tu.stage)
        , (15, 2, threadModeCode s.tu.mode), (17, 4, s.tu.failed), (21, 1, bit s.tu.jetOk), (22, 1, bit s.tu.pickup)
        , (23, 1, bit s.tu.wireOk), (24, 8, s.eg.recovery) ]
    ∧ Shows (r 0xF00F)
        [ (0, 7, s.ps.current.getD 127), (7, 7, s.ps.deferred.length), (14, 8, s.ps.ownCount.toNat)
        , (22, 7, if s.prs.stage = .none then 0 else (s.prs.queue.head?.map (·.word)).getD 0)
        , (29, 1, bit s.ps.marker) ]
    ∧ (s.power ≠ .ready → ∀ k, 1 ≤ k → k ≤ 15 → r (0xF010 + k - 1) = 0)
    ∧ (s.power = .ready →
      Shows (r 0xF010)
          [(0, 5, s.cfg.cellSize), (8, 4, s.cfg.stationOffset), (16, 4, s.cli.station), (20, 4, s.cli.strap.toNat)]
      ∧ Shows (r 0xF011) [(0, 3, s.cfg.jetLimit), (4, 4, s.cfg.dropLimit), (8, 4, s.cfg.zx), (12, 4, s.cfg.zy)]
      ∧ Shows (r 0xF012)
          [ (0, 4, s.cfg.eovr), (4, 1, bit s.cfg.enThread), (5, 1, bit s.cfg.enRelease), (6, 1, bit s.cfg.enRecovery)
          , (8, 8, s.cfg.recoverySteps) ]
      ∧ Shows (r 0xF013) [(0, 16, s.cfg.ts)] ∧ Shows (r 0xF014) [(0, 16, s.cfg.gt)]
      ∧ Shows (r 0xF015) [(0, 16, s.cfg.tOpen)]
      ∧ Shows (r 0xF016) [(0, 8, s.cfg.retractMax), (8, 8, s.cfg.retractRate)]
      ∧ Shows (r 0xF017) [(0, 8, s.cfg.shortHold), (8, 4, s.cfg.threadTries), (12, 4, s.cfg.kerfTries)]
      ∧ Shows (r 0xF018) [(0, 8, s.cfg.annealTime), (8, 8, s.cfg.feedTimeout)]
      ∧ Shows (r 0xF019) [(0, 8, s.cfg.releaseWait), (8, 4, s.cfg.releaseAttempts)]
      ∧ Shows (r 0xF01A) [(0, 16, s.cfg.xmax)] ∧ Shows (r 0xF01B) [(0, 16, s.cfg.ymax)]
      ∧ Shows (r 0xF01C) [(0, 16, s.cfg.rapidRate)] ∧ Shows (r 0xF01D) [(0, 8, s.cfg.threadAdmitWarn)]
      ∧ Shows (r 0xF01E) [(0, 16, s.cfg.attnMask.toNat)])
    ∧ (∀ n, n < 16 →
      let e := s.pva.peer n
      Shows (r (0xF100 + 2 * n))
          [ (0, 2, livenessCode e.live), (2, 5, e.missed), (7, 4, e.head.toNat), (11, 6, e.zone.toNat)
          , (17, 4, e.age.toNat), (21, 1, bit e.isForeign), (22, 8, e.last.toNat) ]
      ∧ Shows (r (0xF101 + 2 * n)) [(0, 16, e.attributed), (16, 16, e.cumulative)])
    ∧ (∀ z, z < 64 → Shows (r (0xF140 + z)) [(0, 8, Memory.read 0 s.pva.tally z)])
    ∧ (∀ n, n < 80 → Shows (r (0xF200 + n)) [(0, 16, (s.prs.nvWord n).toNat)])
    ∧ bit true = 1 ∧ bit false = 0
    ∧ [ HeadState.idle, .traverse, .waitThread, .threading, .cutting, .stalled, .waitRelease, .releasing, .unthreading
      , .parked ].map headCode = List.range 10
    ∧ [JobState.disarmed, .arming, .armed, .running, .halted, .done].map jobCode = List.range 6
    ∧ [Phase.none, .rough, .release].map phaseCode = List.range 3
    ∧ [HaltReason.none, .host, .record].map reasonCode = List.range 3
    ∧ [Answer.none, .accepted, .refusedState, .refusedBusy, .refusedArg, .refusedStarting].map answerCode = List.range 6
    ∧ [LineMode.off, .solo, .noSlot, .listen, .active, .backoff, .stuck].map lineModeCode = List.range 7
    ∧ [LinkCondition.good, .lost, .noSlot, .solo].map linkCode = List.range 4
    ∧ [UpdateStage.none, .erase, .write].map updateStageCode = List.range 3
    ∧ [PassKind.none, .rough, .release].map passKindCode = List.range 3
    ∧ [ArmError.none, .badHeader, .noPlate, .plateMismatch, .badPart, .badSegment, .badArc, .badMark].map armErrorCode
      = List.range 8
    ∧ [EngineState.idle, .standby, .traverse, .pass].map engineCode = List.range 4
    ∧ [SubState.run, .gap, .stopped].map (fun x => subCode (some x)) = List.range 3 ∧ subCode none = 0
    ∧ [GapMode.idle, .feeding, .retracting, .replaying, .stalledTiming, .wireWait].map gapModeCode = List.range 6
    ∧ gapModeCode .stalledStuck = 4
    ∧ [GapClass.short, .normal, .openGap].map gapClassCode = List.range 3
    ∧ [Stage.idle, .sever, .anneal, .jet, .feed, .capture, .withdraw, .threaded, .unthread, .paused].map stageCode
      = List.range 10
    ∧ [ThreadMode.none, .startHole, .kerf].map threadModeCode = List.range 3
    ∧ [Liveness.never, .fresh, .stale, .absent].map livenessCode = List.range 4

/-- A one-shot edge that finds the marker set, in PUT, GET, PEEK or any order, changes nothing but the sampled mode and
a released JDAT; an edge in HOLD clears the marker, and the edges of the shift modes leave it. -/
def Obligations.OneShotActsOnce : Prop :=
  ∀ s : State, Awake s →
    (s.jp.marker = true →
      exec .put s = .next { s with jp := { s.jp with lastMode := .put, jdat := none } }
      ∧ exec .peek s = .next { s with jp := { s.jp with lastMode := .peek, jdat := none } }
      ∧ exec (.get s.tu.pickup) s = .next { s with jp := { s.jp with lastMode := .get, jdat := none } }
      ∧ (∀ r ∈ orderRows, orderCode s.jp.word = r.1 →
          exec r.2 s = .next { s with jp := { s.jp with lastMode := .order, jdat := none } })
      ∧ (orderCode s.jp.word ∉ orderRows.map (·.1) →
          exec .undefinedOrder s = .next { s with jp := { s.jp with lastMode := .order, jdat := none } }))
    ∧ exec .hold s = .next { s with jp := { s.jp with lastMode := .hold, jdat := none, marker := false } }
    ∧ ∀ (b : Bool) (t : State),
        (exec (.addrIn b) s = .next t ∨ exec (.wordIn b) s = .next t ∨ exec .wordOut s = .next t) →
        t.jp.marker = s.jp.marker

/-- Before the start-up completion every defined order is refused with REFUSED_STARTING, and in every state an order
code that names no order with REFUSED_ARG; neither has an effect. The code is bits 31 to 24 of the port word, the
argument bits 23 to 0, read as a number or in two's complement. -/
def Obligations.OrdersRefused : Prop :=
  (∀ w : Word, orderCode w = w.toNat / 2 ^ 24 ∧ orderArg w = w.toNat % 2 ^ 24
    ∧ signedField w 0 24 = (if orderArg w < 2 ^ 23 then (orderArg w : Int) else orderArg w - 2 ^ 24)
    ∧ ∀ lo len, field w lo len = w.toNat / 2 ^ lo % 2 ^ len)
  ∧ [ orderArm, orderStart, orderHalt, orderResume, orderSkipPart, orderAbort, orderSetPositionX, orderSetPositionY
    , orderNewPlate, orderWriteConfig, orderClearFlags, orderSetAttnMask, orderClearCounters ] = orderRows.map (·.1)
  ∧ definedOrders = orderRows.map (·.1)
  ∧ (∀ s : State, Awake s → s.jp.marker = false → orderCode s.jp.word ∉ definedOrders →
    exec .undefinedOrder s = .next (answeredOnly .refusedArg s))
  ∧ ∀ s : State, s.power = .starting → s.jp.marker = false →
    let refused := Host.Outcome.next (φ := Fault) (ρ := Refusal) (answeredOnly .refusedStarting s)
    (orderCode s.jp.word = orderArm → exec .arm s = refused)
    ∧ (orderCode s.jp.word = orderStart → exec .start s = refused)
    ∧ (orderCode s.jp.word = orderHalt → exec .halt s = refused)
    ∧ (orderCode s.jp.word = orderResume → exec .resume s = refused)
    ∧ (orderCode s.jp.word = orderSkipPart → exec .skipPart s = refused)
    ∧ (orderCode s.jp.word = orderAbort → exec .abort s = refused)
    ∧ (orderCode s.jp.word = orderSetPositionX → exec .setPositionX s = refused)
    ∧ (orderCode s.jp.word = orderSetPositionY → exec .setPositionY s = refused)
    ∧ (orderCode s.jp.word = orderNewPlate → exec .newPlate s = refused)
    ∧ (orderCode s.jp.word = orderWriteConfig → exec .writeConfig s = refused)
    ∧ (orderCode s.jp.word = orderClearFlags → exec .clearFlags s = refused)
    ∧ (orderCode s.jp.word = orderSetAttnMask → exec .setAttnMask s = refused)
    ∧ (orderCode s.jp.word = orderClearCounters → exec .clearCounters s = refused)

/-- CLEAR_FLAGS, in every job state, clears every flag whose mask bit is 1 and keeps the others, whatever bits 23 to
16 hold, and touches nothing but the flags; a flag set just before it reads clear, one set just after it set. -/
def Obligations.ClearFlagsClears : Prop :=
  (∀ s : State, OrderArrives orderClearFlags s →
    exec .clearFlags s = .next { s with jp := { portAfter .accepted s.jp with
      flags := s.jp.flags &&& ~~~(s.jp.word.extractLsb' 0 16) } })
  ∧ ∀ (flags mask : Half) (b : Fin 16),
    ((clearFlagBits flags mask).getLsbD b = (flags.getLsbD b && !mask.getLsbD b))
    ∧ (mask.getLsbD b = true → (clearFlagBits (withFlag flags b) mask).getLsbD b = false)
    ∧ (withFlag (clearFlagBits flags mask) b).getLsbD b = true

/-- SET_ATTN_MASK replaces the mask whole, and ATTN follows flags and mask; CLEAR_COUNTERS zeroes the four line
counters and the release-count error counter. The flags stand in their bits, and an event sets its own alone. -/
def Obligations.MaskAndCounters : Prop :=
  [ flagJobDone, flagPartDone, flagPartHeld, flagThreadFail, flagWireBreak, flagShortStuck, flagJetFault
  , flagAdmitSlow, flagRecordFault, flagRecordUnknown, flagLineStuck, flagLineLost, flagDupStation
  , flagConfigClamped, flagArmFailed, flagPlateForeign ] = List.range 16
  ∧ (∀ (flags : Half) (b c : Nat), b < 16 → c < 16 →
    (withFlag flags b).getLsbD c = (flags.getLsbD c || decide (c = b)))
  ∧ ∀ s : State,
    (OrderArrives orderSetAttnMask s →
      ∃ t, exec .setAttnMask s = .next t
        ∧ t = { s with jp := { portAfter .accepted s.jp with mask := s.jp.word.extractLsb' 0 16 } }
        ∧ (attn t = true ↔ ∃ b : Fin 16, t.jp.flags.getLsbD b = true ∧ t.jp.mask.getLsbD b = true))
    ∧ (OrderArrives orderClearCounters s →
      exec .clearCounters s = .next { s with
        jp := portAfter .accepted s.jp
        cli := { s.cli with collision := 0, crc := 0, dup := 0, stray := 0 }
        pva := { s.pva with errors := 0 } })

/-- SET_POSITION_X and SET_POSITION_Y: refused before the start-up completion, refused busy unless the engine is IDLE,
refused by an argument out of range, else the named coordinate takes the argument and nothing else changes. -/
def Obligations.SetPosition : Prop :=
  ∀ s : State,
    let c : Int := signedField s.jp.word 0 24
    (s.power = .starting → s.jp.marker = false →
      (orderCode s.jp.word = orderSetPositionX →
        exec .setPositionX s = .next (answeredOnly .refusedStarting s))
      ∧ (orderCode s.jp.word = orderSetPositionY →
        exec .setPositionY s = .next (answeredOnly .refusedStarting s)))
    ∧ (OrderArrives orderSetPositionX s →
      exec .setPositionX s = .next
        (if s.pe.engine ≠ .idle then answeredOnly .refusedBusy s
         else if -1048575 ≤ c ∧ c ≤ 1048575 then answeredOnly .accepted { s with pe := { s.pe with posX := c } }
         else answeredOnly .refusedArg s))
    ∧ (OrderArrives orderSetPositionY s →
      exec .setPositionY s = .next
        (if s.pe.engine ≠ .idle then answeredOnly .refusedBusy s
         else if -1048575 ≤ c ∧ c ≤ 1048575 then answeredOnly .accepted { s with pe := { s.pe with posY := c } }
         else answeredOnly .refusedArg s))

/-! ## ARM -/

/-- ARM by job state: refused, or accepted into ARMING with the last error NONE, every fired flag clear and the engine
in STANDBY, whatever the checks find. The checks are made in their order inside the step and their outcome stands in
js.arm (the model's inference, log 6): the first that fails ends them with its code and index, segment lengths and hold
positions being written as the segments and HOLD marks pass. Header, part, segment and mark entries are read in their
places: five words to a part from 0x0040, four to a segment from 0x1000, two to a mark from 0x0200. -/
def Obligations.ArmAnswered : Prop :=
  (∀ s : State, OrderArrives orderArm s →
    ((s.ps.job = .disarmed ∨ s.ps.job = .done) → s.prs.feed = none →
      let c := runChecks s.cfg (s.prs.nvWord 64).toNat { s.js with armErr := .none, armIdx := 0 }
      ∃ t, exec .arm s = .next t ∧ t.jp.answer = .accepted ∧ t.jp.answers = s.jp.answers + 1
        ∧ t.ps.job = .arming ∧ t.js.armErr = .none ∧ t.js.armIdx = 0 ∧ t.pe.fired = 0
        ∧ t.pe.engine = .standby ∧ t.js.mem = s.js.mem ∧ t.pe.posX = s.pe.posX ∧ t.pe.posY = s.pe.posY
        ∧ t.pe.markPtr = s.pe.markPtr ∧ t.gc = s.gc ∧ t.tu = s.tu ∧ t.cli = s.cli ∧ t.pva = s.pva
        ∧ t.js.lengths = c.1.lengths ∧ t.js.holds = c.1.holds
        ∧ ∀ e idx, c.2 = some (e, idx) → t.js.arm = .failing e idx ∧ t.prs = s.prs ∧ t.ps.held = [])
    ∧ ((s.ps.job = .disarmed ∨ s.ps.job = .done) → s.prs.feed ≠ none →
      exec .arm s = .next (answeredOnly .refusedBusy s))
    ∧ (s.ps.job = .arming → exec .arm s = .next (answeredOnly .refusedBusy s))
    ∧ ((s.ps.job = .armed ∨ s.ps.job = .running ∨ s.ps.job = .halted) →
      exec .arm s = .next (answeredOnly .refusedState s)))
  ∧ (∀ js : JobStore,
    let bits (a lo len : Nat) : Nat := (Memory.read 0#32 js.mem a).toNat / 2 ^ lo % 2 ^ len
    let coord (a : Nat) : Int := if bits a 0 21 < 2 ^ 20 then bits a 0 21 else (bits a 0 21 : Int) - 2 ^ 21
    js.plate = bits 0 0 16 ∧ js.partCount = bits 1 0 16 ∧ js.segmentCount = bits 2 0 16 ∧ js.markCount = bits 3 0 16
    ∧ (∀ p, let a := 0x0040 + 5 * p
        js.part p =
          { policy := bits a 0 2, zone := bits a 4 6, eprim := bits a 12 4, fmax := bits a 16 16
            startX := coord (a + 1), startY := coord (a + 2), firstSeg := bits (a + 3) 0 16
            segCount := bits (a + 3) 16 16, firstMark := bits (a + 4) 0 16, markCount := bits (a + 4) 16 16 })
    ∧ (∀ n, let a := 0x1000 + 4 * n
        js.segment n =
          { kind := bits a 24 2, endX := coord a, endY := coord (a + 1), cenX := coord (a + 2), cenY := coord (a + 3) })
    ∧ (∀ n, let a := 0x0200 + 2 * n
        js.mark n =
          { kind := bits a 24 2, offset := bits a 0 21, value := bits (a + 1) 0 16, relSeg := bits (a + 1) 16 16 })
    ∧ (∀ n, js.length n = Memory.read 0 js.lengths n) ∧ (∀ p, js.holdAt p = Memory.read (0, 0) js.holds p)
    ∧ (∀ p k, js.segStart (js.part p) k = startOf js p k)
    ∧ [policyDrop, policyTabRelease, policyTabHold] = List.range 3 ∧ [segLine, segArcCw, segArcCcw] = List.range 3
    ∧ [markHold, markEnergy, markFeed] = List.range 3)
  ∧ ∀ (c : Params) (stored : Nat) (js : JobStore),
    let segs := (List.range js.partCount).flatMap fun p => (List.range (js.part p).segCount).map fun k => (p, k)
    let marks := (List.range js.partCount).flatMap fun p => (List.range (js.part p).markCount).map fun m => (p, m)
    let measured : JobStore := { js with lengths := lengthsOf js segs js.lengths }
    let arcs : Nat × Nat → Prop := fun v =>
      (js.segment ((js.part v.1).firstSeg + v.2)).kind ≠ segLine → ArcGood js v
    (∀ e, checkHeader js = some e → runChecks c stored js = (js, some e))
    ∧ (checkHeader js = none →
      (stored = 0 → runChecks c stored js = (js, some (.noPlate, 0)))
      ∧ (stored ≠ 0 → ¬ (1 ≤ js.plate ∧ js.plate ≤ 65534 ∧ js.plate = stored) →
        runChecks c stored js = (js, some (.plateMismatch, 0)))
      ∧ (stored ≠ 0 → 1 ≤ js.plate → js.plate ≤ 65534 → js.plate = stored →
        (∀ p, p < js.partCount → ¬ PartGood c js p → (∀ q, q < p → PartGood c js q) →
          runChecks c stored js = (js, some (.badPart, p)))
        ∧ ((∀ p, p < js.partCount → PartGood c js p) →
          (∀ pre v post, segs = pre ++ v :: post → (∀ w ∈ pre, SegmentGood c js w) → ¬ SegmentGood c js v →
            runChecks c stored js = ({ js with lengths := lengthsOf js pre js.lengths },
              some (.badSegment, (js.part v.1).firstSeg + v.2)))
          ∧ ((∀ v ∈ segs, SegmentGood c js v) →
            (∀ pre v post, segs = pre ++ v :: post → (∀ w ∈ pre, arcs w) → ¬ arcs v →
              runChecks c stored js = (measured, some (.badArc, (js.part v.1).firstSeg + v.2)))
            ∧ ((∀ v ∈ segs, arcs v) →
              (∀ pre v post, marks = pre ++ v :: post → (∀ w ∈ pre, MarkGood measured w) →
                ¬ MarkGood measured v →
                runChecks c stored js = ({ measured with holds := holdsOf js pre js.holds },
                  some (.badMark, (js.part v.1).firstMark + v.2)))
              ∧ ((∀ v ∈ marks, MarkGood measured v) →
                runChecks c stored js = ({ measured with holds := holdsOf js marks js.holds }, none)))))))

/-- The rows that end an ARM. ARM_CHECK_FAILED records the error and index, sets ARM_FAILED and returns to DISARMED;
ARM_SUCCESS makes the job ARMED; both leave the engine IDLE. The part records are read in the order of the parts, from
the queue before the array: a CUTTING becomes ABANDONED or waits for queue room, an UNKNOWN is skipped with
RECORD_UNKNOWN, any other state is handed on. ARM_QUEUE_WAIT_END joins the ABANDONED of the part that waited and goes
on with the parts after it. A record word holds its state in bits 2 to 0 and its zone in bits 8 to 3; it decodes to a
state from 1 to 6 with bits 15 to 9 at 0, and else to UNKNOWN. That the outcome stands in js.arm for its own row (log
6), and that WRITE_END may already have placed the waiting update (log 7), are the model's inferences. -/
def Obligations.ArmEnds : Prop :=
  (∀ (e : ArmError) (idx : Nat) (s : State), s.ps.job = .arming → s.js.arm = .failing e idx →
    exec .armCheckFailed s = .next { s with
      ps := { s.ps with job := .disarmed }
      pe := { s.pe with engine := .idle }
      js := { s.js with armErr := e, armIdx := idx, arm := .idle }
      jp := flagged flagArmFailed s.jp })
  ∧ (∀ s : State, s.ps.job = .arming → s.js.arm = .handed →
    exec .armSuccess s = .next { s with
      ps := { s.ps with job := .armed }, pe := { s.pe with engine := .idle }, js := { s.js with arm := .idle } })
  ∧ (∀ (p : Nat) (joined : Bool) (s : State), s.ps.job = .arming → s.js.arm = .waiting p joined →
    (joined = true ∨ s.prs.canJoin p = true) →
    let read : State := { s with
      ps := { s.ps with held := Memory.write Held.dropped p (.state .abandoned) s.ps.held }
      prs := if joined then s.prs
             else s.prs.join s.now p (recordWord .abandoned (s.js.part p).zone) false }
    exec .armQueueWaitEnd s = .next (readRecords ((List.range s.js.partCount).drop (p + 1)) read)
    ∧ (s.js.partCount ≤ p + 1 →
      exec .armQueueWaitEnd s = .next { read with js := { s.js with arm := .handed } }))
  ∧ (∀ s : State, OrderArrives orderArm s → (s.ps.job = .disarmed ∨ s.ps.job = .done) → s.prs.feed = none →
    let c := runChecks s.cfg (s.prs.nvWord 64).toNat { s.js with armErr := .none, armIdx := 0 }
    c.2 = none →
    ∃ t, exec .arm s = .next { t with jp := portAfter .accepted t.jp }
      ∧ t = readRecords (List.range c.1.partCount) { s with
          js := c.1, ps := { s.ps with job := .arming, held := [] }
          pe := { s.pe with engine := .standby, fired := 0 } })
  ∧ (∀ (r : RecState) (zone : Nat) (w : Half),
    ([RecState.unknown, .uncut, .cutting, .tabbed, .released, .held, .abandoned].map recCode = List.range 7)
    ∧ (zone < 64 → (recordWord r zone).toNat = recCode r + 8 * zone)
    ∧ recordZone w = w.toNat / 8 % 64
    ∧ (r ≠ .unknown → (recordState w = r ↔ w.toNat < 512 ∧ w.toNat % 8 = recCode r))
    ∧ (recordState w = .unknown ↔ 512 ≤ w.toNat ∨ w.toNat % 8 = 0 ∨ w.toNat % 8 = 7))
  ∧ (∀ (e : QueueEntry) (i : Nat) (r : RecordStore),
    (e.word = i → { r with queue := e :: r.queue }.queued i = some e.value)
    ∧ (e.word ≠ i → { r with queue := e :: r.queue }.queued i = { r with queue := r.queue }.queued i)
    ∧ (r.queue = [] → r.queued i = none) ∧ r.nvWord i = Memory.read 0#16 r.nv i)
  ∧ ∀ (i : Nat) (rest : List Nat) (s : State),
    let w := (s.prs.queued i).getD (s.prs.nvWord i)
    let hand (h : Held) : State := { s with ps := { s.ps with held := Memory.write Held.dropped i h s.ps.held } }
    readRecords [] s = { s with js := { s.js with arm := .handed } }
    ∧ (recordState w = .cutting → s.prs.canJoin i = true →
      readRecords (i :: rest) s = readRecords rest { hand (.state .abandoned) with
        prs := s.prs.join s.now i (recordWord .abandoned (s.js.part i).zone) false })
    ∧ (recordState w = .cutting → s.prs.canJoin i = false →
      readRecords (i :: rest) s = { s with js := { s.js with arm := .waiting i false } })
    ∧ (recordState w = .unknown →
      readRecords (i :: rest) s = readRecords rest { hand .skipped with jp := flagged flagRecordUnknown s.jp })
    ∧ (recordState w ≠ .cutting → recordState w ≠ .unknown →
      readRecords (i :: rest) s = readRecords rest (hand (.state (recordState w))))

/-- Check 1 takes the header counts in word order; the first out of range gives BAD_HEADER with its word, and an
accepted ARM ends with it. A mark count of 0 passes check 1, and check 3 then fails at part 0. -/
def Obligations.HeaderCounts : Prop :=
  (∀ js : JobStore,
    checkHeader js =
      if ¬ (1 ≤ js.partCount ∧ js.partCount ≤ 64) then some (.badHeader, 1)
      else if ¬ (1 ≤ js.segmentCount ∧ js.segmentCount ≤ 2048) then some (.badHeader, 2)
      else if ¬ (0 ≤ js.markCount ∧ js.markCount ≤ 256) then some (.badHeader, 3) else none)
  ∧ (∀ (s : State) (idx : Nat), OrderArrives orderArm s → (s.ps.job = .disarmed ∨ s.ps.job = .done) →
    s.prs.feed = none → checkHeader s.js = some (.badHeader, idx) →
    ∃ t u, exec .arm s = .next t ∧ exec .armCheckFailed t = .next u ∧ u.js.armErr = .badHeader ∧ u.js.armIdx = idx
      ∧ u.ps.job = .disarmed ∧ u.jp.flags = withFlag s.jp.flags flagArmFailed
      ∧ u.js.lengths = s.js.lengths ∧ u.js.holds = s.js.holds)
  ∧ ∀ (c : Params) (js : JobStore), 1 ≤ js.partCount → js.markCount = 0 → checkParts c js = some (.badPart, 0)

/-! ## The job's orders -/

/-- START out of ARMED is refused. In ARMED the job is RUNNING and the head goes to the start hole of the first UNCUT
part. With no UNCUT part the release phase begins: the head goes to the hold position of the first TABBED part whose
budget passes; one whose budget fails is HELD where it stands, or waits for queue room; then the deferred list, which a
run finds empty here; with none to release the job is DONE. The head that such a wait shows is the model's choice
(log 45), and so is the current part there and at the boundary (log 44). -/
def Obligations.StartTakesFirstPart : Prop :=
  ∀ s : State, OrderArrives orderStart s →
    (s.ps.job ≠ .armed → exec .start s = .next (answeredOnly .refusedState s))
    ∧ (∀ p : Nat, s.ps.job = .armed → p < s.js.partCount →
        Memory.read Held.dropped s.ps.held p = .state .uncut →
        (∀ q, q < p → Memory.read Held.dropped s.ps.held q ≠ .state .uncut) →
        (s.pe.posX, s.pe.posY) ≠ ((s.js.part p).startX, (s.js.part p).startY) →
        exec .start s = .next (answeredOnly .accepted { s with
          ps := { s.ps with
            job := .running, phase := .rough, reason := .none, current := some p, attempts := none
            scan := p + 1, takenZone := (s.js.part p).zone, head := .traverse, activity := .traversing .startHole }
          pe := { s.pe with
            engine := .traverse, stepTimer := some s.now
            traverse := some { sx := s.pe.posX, sy := s.pe.posY, tx := (s.js.part p).startX
                               ty := (s.js.part p).startY, moving := true } } }))
    ∧ (s.ps.job = .armed →
        WalksOn (exec .start s) (answeredOnly .accepted { s with
          ps := { s.ps with job := .running, phase := .rough, reason := .none, scan := 0, attempts := none }
          pe := { s.pe with engine := .standby } }))

/-- HALT, by what the head was doing. The retract step already asked for that it completes is given no test of the
limits (the model's DESIGN CHOICE, log 39). That the frame on the line no longer announces a withdrawn intent is the
model's inference (log 30), and so are the step in which the retract step asked for is made (log 8) and the record
wait whose update has joined but whose sequence has not gone on (log 7): there what follows the update waits for
RESUME, a part with nothing to follow stands at the boundary, and an unthread already running runs on. That an
unthread runs beside its update is its inference too (unthreadRunning, log 11), and that the finished part stays the
current one at the boundary its DESIGN CHOICE (atBoundary, log 44). -/
def Obligations.HaltStops : Prop :=
  ∀ s : State, OrderArrives orderHalt s →
    (s.ps.job ≠ .running → exec .halt s = .next (answeredOnly .refusedState s))
    ∧ (s.ps.job = .running →
      let h : State := answeredOnly .accepted { s with ps := halted s.ps }
      (∀ p, s.ps.activity = .traversing p →
        exec .halt s = .next { h with pe := { s.pe with
          traverse := s.pe.traverse.map fun t => { t with moving := false }, stepTimer := none } })
      ∧ ((s.ps.activity = .waitRelease ∨ ∃ p, s.ps.activity = .waitThread p) →
        exec .halt s = .next { h with
          pva := { s.pva with intent := Intent.empty }, cli := noLongerLive s.cli })
      ∧ (∀ p, s.ps.activity = .threading p → s.tu.stage.threading = true →
        exec .halt s = .next { h with
          tu := { s.tu with stage := .paused, timer := none }
          ps := { halted s.ps with activity := .waitThread p } })
      ∧ (s.ps.activity = .passing →
        let u := completeAsked s
        exec .halt s = .next { h with
          pe := { u.pe with sub := some .stopped, remembered := u.pe.sub, stepTimer := none }
          gc := { u.gc with halted := true, asked := false, stepTimer := none, stallTimer := none } })
      ∧ ((s.ps.activity = .unthreading ∨ s.ps.activity = .boundary
            ∨ ∃ u k, s.ps.activity = .recordWait u k false) →
        exec .halt s = .next h)
      ∧ (∀ u k, (k = .loadRough ∨ k = .threadAgain ∨ k = .unthread) → s.ps.activity = .recordWait u k true →
        exec .halt s = .next { h with ps := { halted s.ps with activity := .recordJoined k } })
      ∧ (∀ u, s.ps.activity = .recordWait u .unthreadRunning true →
        exec .halt s = .next { h with ps := { halted s.ps with activity := .unthreading } })
      ∧ (∀ u, s.ps.activity = .recordWait u .nextPart true →
        exec .halt s = .next (answeredOnly .accepted (atBoundary { s with ps := halted s.ps }))))

/-- RESUME, by what the halt stopped; in RUNNING it restarts a cut stuck in STALLED and is else refused. A pass halted
in a retract episode is finished by replay or, with nothing to replay, at once; at a part boundary the next part is
taken up, or the phase or the job ends; after a record wait what follows the update is made: the pass load, a new
threading, the unthread, complete at once where no wire is through, or the walk. The model's own: the head state that
a RESUME in a record wait shows (log 10), that a record wait whose update has joined stands until its own row or
RESUME (log 7), that the unthread of a release-phase part whose last attempt expired runs beside its waiting update
(unthreadRunning, log 11), the current part at a boundary (log 44), and the head in the record wait of a failed budget
pre-check, PARKED at this RESUME (log 45). -/
def Obligations.ResumeTakesUp : Prop :=
  (passHead .release = .releasing ∧ passHead .rough = .cutting)
  ∧ ∀ s : State, OrderArrives orderResume s →
    ((s.ps.job = .disarmed ∨ s.ps.job = .arming ∨ s.ps.job = .armed ∨ s.ps.job = .done) →
      exec .resume s = .next (answeredOnly .refusedState s))
    ∧ (s.ps.job = .running → ¬ (s.ps.head = .stalled ∧ s.gc.mode = .stalledStuck) →
      exec .resume s = .next (answeredOnly .refusedState s))
    ∧ (s.ps.job = .running → s.ps.head = .stalled → s.gc.mode = .stalledStuck → s.gc.redo ≠ [] →
      exec .resume s = .next (answeredOnly .accepted { s with
        ps := { s.ps with head := passHead s.pe.passKind }
        gc := { approach s.cfg s.gc with
          mode := .replaying, asked := false, stepTimer := some s.now, stallTimer := none } }))
    ∧ (s.ps.job = .running → s.ps.head = .stalled → s.gc.mode = .stalledStuck → s.gc.redo = [] →
      exec .resume s = .next (answeredOnly .accepted { s with
        ps := { s.ps with head := passHead s.pe.passKind }
        pe := { s.pe with sub := some .run }
        gc := { approach s.cfg s.gc with
          mode := .feeding, asked := false, stepTimer := none, stallTimer := none }
        eg := { s.eg with recovery := s.cfg.recoverySteps } }))
    ∧ (s.ps.job = .halted →
      let r : State := answeredOnly .accepted { s with ps := resumed s.ps }
      let again : PathEngine := { s.pe with
        sub := some (s.pe.remembered.getD .run), remembered := none, stepTimer := some s.now }
      let cleared : GapControl := { approach s.cfg s.gc with halted := false, stepTimer := none }
      (∀ p, s.ps.activity = .traversing p →
        exec .resume s = .next { r with
          ps := { resumed s.ps with head := .traverse }
          pe := { s.pe with
            traverse := s.pe.traverse.map fun t => { t with moving := true }, stepTimer := some s.now } })
      ∧ (∀ p, s.ps.activity = .waitThread p →
        exec .resume s = .next { r with
          ps := { resumed s.ps with head := .waitThread }
          pva := { s.pva with intent := newIntent .thread s.now } })
      ∧ (s.ps.activity = .waitRelease →
        exec .resume s = .next { r with
          ps := { resumed s.ps with head := .waitRelease }
          pva := { s.pva with intent := newIntent .release s.now } })
      ∧ (s.ps.activity = .passing → s.gc.mode = .feeding →
        exec .resume s = .next { r with
          ps := { resumed s.ps with head := passHead s.pe.passKind }
          pe := again, gc := cleared })
      ∧ (s.ps.activity = .passing → s.gc.mode = .replaying →
        exec .resume s = .next { r with
          ps := { resumed s.ps with head := passHead s.pe.passKind }
          pe := again, gc := { cleared with stepTimer := some s.now } })
      ∧ (s.ps.activity = .passing →
        (s.gc.mode = .retracting ∨ s.gc.mode = .stalledTiming ∨ s.gc.mode = .stalledStuck) →
        (s.gc.redo ≠ [] → exec .resume s = .next { r with
          ps := { resumed s.ps with head := passHead s.pe.passKind }
          pe := again
          gc := { cleared with mode := .replaying, asked := false, stepTimer := some s.now, stallTimer := none } })
        ∧ (s.gc.redo = [] → exec .resume s = .next { r with
          ps := { resumed s.ps with head := passHead s.pe.passKind }
          pe := { again with sub := some .run }
          gc := { cleared with mode := .feeding, asked := false, stallTimer := none }
          eg := { s.eg with recovery := s.cfg.recoverySteps } }))
      ∧ (s.ps.activity = .unthreading →
        exec .resume s = .next { r with ps := { resumed s.ps with head := .unthreading } })
      ∧ (s.ps.activity = .boundary → WalksOn (exec .resume s) r)
      ∧ (∀ u k, s.ps.activity = .recordWait u k false →
        exec .resume s = .next { r with ps := { resumed s.ps with head := s.ps.headBeforeHalt } })
      ∧ (∀ u p, (s.ps.activity = .recordJoined .loadRough ∨ s.ps.activity = .recordWait u .loadRough true) →
        s.ps.current = some p →
        ∃ t, exec .resume s = .next t ∧ t.ps.job = .running ∧ RoughPassRuns p s t)
      ∧ (∀ u, (s.ps.activity = .recordJoined .threadAgain ∨ s.ps.activity = .recordWait u .threadAgain true) →
        exec .resume s = .next { r with
          ps := { resumed s.ps with head := .waitThread, activity := .waitThread .startHoleAgain }
          pva := { s.pva with intent := newIntent .thread s.now } })
      ∧ (∀ u, (s.ps.activity = .recordJoined .unthread ∨ s.ps.activity = .recordWait u .unthread true) →
        s.tu.stage = .threaded →
        exec .resume s = .next { r with
          ps := { resumed s.ps with head := .unthreading, activity := .unthreading }
          tu := unthreadingSince s.now s.tu })
      ∧ (∀ u, (s.ps.activity = .recordJoined .unthread ∨ s.ps.activity = .recordWait u .unthread true) →
        s.tu.stage = .idle → GoesOn (exec .resume s) r)
      ∧ (∀ u, (s.ps.activity = .recordJoined .nextPart ∨ s.ps.activity = .recordWait u .nextPart true) →
        GoesOn (exec .resume s) r)
      ∧ (∀ u, (s.ps.activity = .recordJoined .unthreadRunning ∨ s.ps.activity = .recordWait u .unthreadRunning true) →
        exec .resume s = .next { r with
          ps := { resumed s.ps with head := .unthreading, activity := .unthreading } }))

/-- SKIP_PART is refused by state, by a record wait and once the part is settled. A part in its rough cut, STALLED in
RUNNING or halted, is ABANDONED; one at its hold point while the job is HALTED, or in its release pass, is HELD; both
have the wire taken out. So wherever an unsettled part stands, at a capture whose pass load waits too: its pass or
traverse is dropped or its threading ended; the unthread follows where a wire is through, and where none is the walk
of a halted job stands at the boundary; or the update waits for room, in RUNNING with the head as it was: that the
work is ended at the order while the update still waits is the model's choice (log 9). That the log is emptied with no
pass loaded is the model's inference (log 33), and so are the head state that a RESUME in that wait shows (log 10) and
that a record wait whose update has joined is over, so that REFUSED_STATE answers there, or, a CUTTING having joined,
the part is settled (logs 7, 12); the current part at the boundary is its choice (log 44). -/
def Obligations.SkipPartSettles : Prop :=
  ∀ s : State, OrderArrives orderSkipPart s →
    ((s.ps.job ≠ .running ∧ s.ps.job ≠ .halted) → exec .skipPart s = .next (answeredOnly .refusedState s))
    ∧ ((s.ps.job = .running ∨ s.ps.job = .halted) → (∃ u k, s.ps.activity = .recordWait u k false) →
      exec .skipPart s = .next (answeredOnly .refusedBusy s))
    ∧ (s.ps.job = .running → s.ps.head ≠ .stalled → (¬ ∃ u k, s.ps.activity = .recordWait u k false) →
      exec .skipPart s = .next (answeredOnly .refusedState s))
    ∧ ((s.ps.job = .running ∨ s.ps.job = .halted) →
      (s.ps.activity = .unthreading ∨ s.ps.activity = .boundary ∨ s.ps.activity = .recordJoined .unthread
        ∨ ∃ u, s.ps.activity = .recordWait u .unthread true) →
      exec .skipPart s = .next (answeredOnly .refusedState s))
    ∧ (s.ps.job = .halted → s.ps.current = none → (¬ ∃ u k, s.ps.activity = .recordWait u k false) →
      exec .skipPart s = .next (answeredOnly .refusedState s))
    ∧ (∀ p, s.ps.job = .halted → s.ps.current = some p → s.ps.activity = .waitRelease →
      s.pe.engine = .standby → s.tu.stage = .threaded → s.prs.canJoin p = true →
      ∃ t, exec .skipPart s = .next t ∧ t.jp.answer = .accepted
        ∧ t.prs = s.prs.join s.now p (recordWord .held (s.js.part p).zone) false
        ∧ Memory.read Held.dropped t.ps.held p = Memory.read Held.dropped
            (Memory.write Held.dropped p (.state .held) s.ps.held) p
        ∧ t.jp.flags = withFlag (withFlag s.jp.flags flagPartDone) flagPartHeld
        ∧ t.tu = { s.tu with stage := .unthread, mode := .none, timer := some s.now }
        ∧ t.ps.activity = .unthreading ∧ t.ps.job = .halted ∧ t.ps.head = s.ps.head
        ∧ t.gc.log = [] ∧ t.gc.redo = [])
    ∧ (∀ p, ((s.ps.job = .running ∧ s.ps.head = .stalled) ∨ s.ps.job = .halted) → s.ps.current = some p →
      s.ps.activity = .passing → s.pe.engine = .pass → s.tu.stage = .threaded → s.prs.canJoin p = true →
      let rough := s.pe.passKind = .rough ∧ s.ps.phase ≠ .release
      let result (r : RecState) (flags : Half) : Prop :=
        ∃ t, exec .skipPart s = .next t ∧ t.jp.answer = .accepted ∧ t.jp.flags = flags
          ∧ t.prs = s.prs.join s.now p (recordWord r (s.js.part p).zone) false
          ∧ t.tu = unthreadingSince s.now s.tu ∧ t.ps.activity = .unthreading ∧ t.ps.job = s.ps.job
          ∧ t.ps.head = (if s.ps.job = .running then .unthreading else s.ps.head)
          ∧ t.pe.engine = .standby ∧ t.pe.passKind = .none ∧ t.pe.sub = none
          ∧ t.gc.mode = .idle ∧ t.gc.halted = false ∧ t.gc.log = [] ∧ t.gc.redo = [] ∧ t.eg.recovery = 0
      (rough → result .abandoned (withFlag s.jp.flags flagPartDone))
      ∧ (s.pe.passKind = .release → result .held (withFlag (withFlag s.jp.flags flagPartDone) flagPartHeld)))
    ∧ (∀ p, ((s.ps.job = .running ∧ s.ps.head = .stalled) ∨ s.ps.job = .halted) → s.ps.current = some p →
      Unsettled s.ps.activity →
      let held := s.ps.phase = .release ∨ s.pe.passKind = .release ∨ s.ps.activity = .waitRelease
        ∨ s.ps.activity = .waitThread .rethreadHold ∨ s.ps.activity = .threading .rethreadHold
      let d : State := if s.pe.engine = .pass then passEnded s else s
      let w : State := { d with
        pe := { d.pe with engine := .standby, traverse := none, stepTimer := none }
        gc := { d.gc with log := [], redo := [] }
        tu := if s.tu.stage.threading = true ∨ s.tu.stage = .paused then lineless s.tu else s.tu
        ps := { s.ps with headBeforeHalt :=
          if s.ps.headBeforeHalt = .waitThread ∨ s.ps.headBeforeHalt = .threading ∨ s.ps.headBeforeHalt = .waitRelease
          then (if s.tu.stage = .threaded then .unthreading else .idle) else s.ps.headBeforeHalt } }
      let settled (r : RecState) : Prop :=
        let n := noted (updateTo r p s) w
        (s.prs.canJoin p = true → s.tu.stage = .threaded →
          exec .skipPart s = .next (answeredOnly .accepted { n with
            tu := unthreadingSince s.now s.tu
            ps := { n.ps with
              activity := .unthreading
              head := if s.ps.job = .running then .unthreading else s.ps.head } }))
        ∧ (s.prs.canJoin p = true → s.tu.stage ≠ .threaded → s.ps.job = .halted →
          exec .skipPart s = .next (answeredOnly .accepted (atBoundary n)))
        ∧ (s.prs.canJoin p = false →
          exec .skipPart s = .next (answeredOnly .accepted { w with ps := { w.ps with
            activity := .recordWait (updateTo r p s) (if s.tu.stage = .threaded then .unthread else .nextPart)
              false } }))
      (held → settled .held) ∧ (¬ held → settled .abandoned))

/-- ABORT is refused in DISARMED; elsewhere everything under way is dropped: the engine and Gap Control are IDLE, the
threader drops every line, the intent, the deferred list and the marker are gone, and the job is DISARMED with the
head PARKED. The release count, the last-release zone and the failed count are kept. That the log is emptied also
where no pass is loaded is the model's reading of R59 (log 33). -/
def Obligations.AbortDropsAll : Prop :=
  ∀ s : State, OrderArrives orderAbort s →
    (s.ps.job = .disarmed → exec .abort s = .next (answeredOnly .refusedState s))
    ∧ (s.ps.job ≠ .disarmed →
      ∃ t, exec .abort s = .next t ∧ t.jp.answer = .accepted
        ∧ t.pe.engine = .idle ∧ t.pe.traverse = none ∧ t.pe.passKind = .none ∧ t.pe.sub = none
        ∧ t.gc.mode = .idle ∧ t.gc.halted = false ∧ t.gc.log = [] ∧ t.gc.redo = []
        ∧ t.tu.stage = .idle ∧ t.tu.mode = .none ∧ t.tu.timer = none ∧ t.tu.failed = s.tu.failed
        ∧ t.pva.intent = Intent.empty
        ∧ t.ps.job = .disarmed ∧ t.ps.phase = .none ∧ t.ps.reason = .none ∧ t.ps.current = none
        ∧ t.ps.head = .parked ∧ t.ps.deferred = [] ∧ t.ps.held = [] ∧ t.ps.marker = false
        ∧ t.ps.lastRelease = s.ps.lastRelease ∧ t.ps.ownCount = s.ps.ownCount ∧ t.js.arm = .idle
        ∧ t.cfg = s.cfg ∧ t.js.mem = s.js.mem)

/-- ABORT's one record update, by where the part stands: ABANDONED for a rough cut, its rethreading, and a start hole
threaded again with the record CUTTING; HELD at a hold point or in a release pass, their rethreadings included; none
before the first capture, in the release phase before the KERF capture, after the result, or in a record wait, whose
update is dropped. The update sets the flags of its result; at a full queue it is not made. That a CUTTING update
which has joined in a record wait leaves the part in its rough cut, and a result which has joined leaves it settled,
is the model's inference (logs 7, 11, 12). -/
def Obligations.AbortQueuesOneUpdate : Prop :=
  ∀ (p : Nat) (s : State), OrderArrives orderAbort s → (s.ps.job = .running ∨ s.ps.job = .halted) →
    s.ps.current = some p →
    let leaves (prs : RecordStore) (flags : Half) : Prop :=
      ∃ t, exec .abort s = .next t ∧ t.prs = prs ∧ t.jp = { portAfter .accepted s.jp with flags := flags }
        ∧ t.ps.activity = .none ∧ t.ps.current = none
    let none' : Prop := leaves s.prs s.jp.flags
    let one (r : RecState) : Prop :=
      (s.prs.canJoin p = true →
        leaves (s.prs.join s.now p (recordWord r (s.js.part p).zone) false) (withResult r s.jp.flags))
      ∧ (s.prs.canJoin p = false → none')
    let on (u : Purpose) : Prop :=
      s.ps.activity = .traversing u ∨ s.ps.activity = .waitThread u ∨ s.ps.activity = .threading u
    (s.ps.activity = .passing → (s.pe.passKind = .rough → one .abandoned) ∧ (s.pe.passKind = .release → one .held))
    ∧ (s.ps.activity = .waitRelease → one .held)
    ∧ (on .rethreadPass → (s.pe.passKind = .rough → one .abandoned) ∧ (s.pe.passKind = .release → one .held))
    ∧ (on .rethreadHold → one .held)
    ∧ (on .startHole → none') ∧ (on .releaseKerf → none') ∧ (on .startHoleAgain → one .abandoned)
    ∧ ((s.ps.activity = .unthreading ∨ s.ps.activity = .boundary) → none')
    ∧ (∀ u k, s.ps.activity = .recordWait u k false → none')
    ∧ (∀ u k, s.ps.activity = .recordWait u k true ∨ s.ps.activity = .recordJoined k →
      ((k = .loadRough ∨ k = .threadAgain) → one .abandoned)
      ∧ ((k = .unthread ∨ k = .unthreadRunning ∨ k = .nextPart) → none'))

/-! ## Plate and configuration -/

/-- NEW_PLATE, by job state and argument; accepted, it sets the announced identity, zeroes the own release count and
the tally, clears the last-release zone and feeds the queue: offer by offer until one cannot join, and into an empty
queue the identity word and the first seven part records, all with the NEW_PLATE mark. Every peer entry is kept with
its liveness, missed rounds, head, zone and age; its foreign flag is formed afresh, one whose flag clears starting its
release counting afresh and every other keeping its release fields; and PLATE_FOREIGN is set where an entry turns
foreign. -/
def Obligations.NewPlateBegins : Prop :=
  ∀ s : State, OrderArrives orderNewPlate s →
    let arg : Half := s.jp.word.extractLsb' 0 16
    (s.ps.job = .arming → exec .newPlate s = .next (answeredOnly .refusedBusy s))
    ∧ ((s.ps.job = .armed ∨ s.ps.job = .running ∨ s.ps.job = .halted) →
      exec .newPlate s = .next (answeredOnly .refusedState s))
    ∧ ((s.ps.job = .disarmed ∨ s.ps.job = .done) → s.prs.feed ≠ none →
      exec .newPlate s = .next (answeredOnly .refusedBusy s))
    ∧ ((s.ps.job = .disarmed ∨ s.ps.job = .done) → s.prs.feed = none →
      ¬ (1 ≤ orderArg s.jp.word ∧ orderArg s.jp.word ≤ 65534) →
      exec .newPlate s = .next (answeredOnly .refusedArg s))
    ∧ ((s.ps.job = .disarmed ∨ s.ps.job = .done) → s.prs.feed = none →
      1 ≤ orderArg s.jp.word → orderArg s.jp.word ≤ 65534 →
      ∃ t, exec .newPlate s = .next t ∧ t.jp.answer = .accepted
        ∧ t.prs.announced = arg ∧ t.prs.feed ≠ none
        ∧ t.prs = RecordStore.feedAll s.now 65 { s.prs with announced := arg, plateArg := arg, feed := some 0 }
        ∧ (s.prs.queue = [] →
            t.prs.queue = { word := 64, value := arg, mark := true }
                :: ((List.range 7).map fun k => { word := k, value := 0x0001#16, mark := true })
            ∧ t.prs.feed = some 8 ∧ t.prs.stage = .erase ∧ t.prs.writing = arg
            ∧ t.prs.nv = Memory.write 0#16 64 0#16 s.prs.nv)
        ∧ t.ps.ownCount = 0 ∧ t.ps.lastRelease = none ∧ t.pva.tally = []
        ∧ (∀ e ∈ t.pva.peers, e.2.live ≠ .never →
            (e.2.isForeign = true ↔ e.2.plate ≠ arg))
        ∧ t.pva = { s.pva with tally := [], peers := s.pva.peers.map fun e => (e.1, atIdentity arg e.2) }
        ∧ (let turns := ∃ e ∈ s.pva.peers, e.2.live ≠ .never ∧ e.2.plate ≠ arg ∧ e.2.isForeign = false
          (turns → t.jp.flags = withFlag s.jp.flags flagPlateForeign) ∧ (¬ turns → t.jp.flags = s.jp.flags))
        ∧ t.js = s.js ∧ t.pe = s.pe ∧ t.gc = s.gc ∧ t.tu = s.tu ∧ t.cli = s.cli)

/-- The feeding of NEW_PLATE goes on: an update for a word already queued replaces its entry in place; one with no entry
joins at the tail while the queue holds fewer than 8, and begins at once in an empty one, as every update does; at a
full queue it stops. NEW_PLATE_FEED_RESUME goes on so and
touches nothing else; so does the write completion that frees a place, in its own step (log 7). -/
def Obligations.FeedGoesOn : Prop :=
  let entry (s : State) (j : Nat) : QueueEntry :=
    { word := if j = 0 then 64 else j - 1, value := if j = 0 then s.prs.plateArg else 0x0001#16, mark := true }
  let free (s : State) (k : Nat) : Prop := ∀ j, k ≤ j → j < 65 → s.prs.hasEntry (entry s j).word = false
  (∀ (now word : Nat) (v : Half) (mark : Bool) (r : RecordStore),
    (r.hasEntry word = true ↔ ∃ e ∈ r.queue, e.word = word)
    ∧ (r.canJoin word = true ↔ r.hasEntry word = true ∨ r.queue.length < 8)
    ∧ (r.hasEntry word = true → r.join now word v mark = { r with queue := r.queue.map fun e =>
        if e.word = word then { word := word, value := v, mark := mark } else e })
    ∧ (r.hasEntry word = false → r.queue ≠ [] → r.queue.length < 8 →
      r.join now word v mark = { r with queue := r.queue ++ [{ word := word, value := v, mark := mark }] })
    ∧ (r.queue = [] → r.join now word v mark = { r with
        queue := [{ word := word, value := v, mark := mark }], nv := Memory.write 0#16 word 0#16 r.nv
        stage := .erase, writing := v, retried := false, timer := some now })
    ∧ (r.hasEntry word = false → 8 ≤ r.queue.length → r.join now word v mark = r))
  ∧ (∀ s : State, ∃ r, exec .newPlateFeedResume s = .next { s with prs := r }
    ∧ r.announced = s.prs.announced ∧ (s.prs.feed = none → r = s.prs))
  ∧ (∀ (k : Nat) (s : State), s.prs.feed = some k → k ≤ 65 → s.prs.queue ≠ [] → s.prs.queue.length ≤ 8 →
    free s k →
    let n := min (8 - s.prs.queue.length) (65 - k)
    exec .newPlateFeedResume s = .next { s with prs := { s.prs with
      queue := s.prs.queue ++ (List.range' k n).map (entry s), feed := some (k + n) } })
  ∧ (∀ (k : Nat) (s : State), s.prs.feed = some k → k < 65 → s.prs.hasEntry (entry s k).word = true →
    s.prs.queue.length = 8 → free s (k + 1) →
    exec .newPlateFeedResume s = .next { s with prs := { s.prs with
      queue := s.prs.queue.map fun e => if e.word = (entry s k).word then entry s k else e
      feed := some (k + 1) } })
  ∧ ∀ (k : Nat) (rb : Half) (e next : QueueEntry) (rest : List QueueEntry) (s : State),
    s.prs.feed = some k → k < 65 → s.prs.queue = e :: next :: rest → rest.length = 6 → s.prs.stage = .write →
    e.value = s.prs.writing → rb = s.prs.writing → free s k →
    (∀ p, s.js.arm ≠ .waiting p false) → (∀ u f, s.ps.activity ≠ .recordWait u f false) →
    exec (.writeEnd rb) s = .next { s with prs := { s.prs with
      nv := Memory.write 0#16 next.word 0#16 (Memory.write 0#16 e.word rb s.prs.nv)
      queue := next :: rest ++ [entry s k], stage := .erase, writing := next.value, retried := false
      timer := some s.now, feed := some (k + 1) } }

/-- WRITE_CONFIG, by job state, index and room; accepted, it queues the value as given for word 64 plus its
index and changes nothing else. -/
def Obligations.WriteConfigQueues : Prop :=
  ∀ s : State, OrderArrives orderWriteConfig s →
    let idx := field s.jp.word 16 8
    (s.ps.job = .arming → exec .writeConfig s = .next (answeredOnly .refusedBusy s))
    ∧ ((s.ps.job = .running ∨ s.ps.job = .halted) →
      exec .writeConfig s = .next (answeredOnly .refusedState s))
    ∧ ((s.ps.job = .disarmed ∨ s.ps.job = .armed ∨ s.ps.job = .done) →
      exec .writeConfig s = .next
        (if ¬ (1 ≤ idx ∧ idx ≤ 15) then answeredOnly .refusedArg s
         else if s.prs.canJoin (64 + idx) = true then
           answeredOnly .accepted
             { s with prs := s.prs.join s.now (64 + idx) (s.jp.word.extractLsb' 0 16) false }
         else answeredOnly .refusedBusy s))

/-! ## Stepping and the gap -/

/-- The stepping rules. On a line with `x` and `y` steps taken, an x step is taken while x steps remain and D ≤ 0 or
no y step remains, else a y step; at the end point there is none. On an arc the step taken is the one that leaves the
position nearer the circle, x on a tie, each towards the end point, and an axis that has reached its end coordinate is
stepped no more. Both take |Δx| + |Δy| steps and end at E. A cut step is that of the segment where the progress
stands. -/
def Obligations.LineRule : Prop :=
  (∀ sx sy ex ey px py : Int,
    let n := (ex - sx).natAbs
    let m := (ey - sy).natAbs
    let x := (px - sx).natAbs
    let y := (py - sy).natAbs
    let d : Int := (x : Int) * m - (y : Int) * n
    (x < n → (d ≤ 0 ∨ m ≤ y) → lineStep sx sy ex ey px py = some ⟨.x, decide (0 < ex - sx)⟩)
    ∧ (¬ (x < n ∧ (d ≤ 0 ∨ m ≤ y)) → y < m → lineStep sx sy ex ey px py = some ⟨.y, decide (0 < ey - sy)⟩)
    ∧ (n ≤ x → m ≤ y → lineStep sx sy ex ey px py = none))
  ∧ (∀ cx cy sx sy ex ey px py : Int,
    let u := px - cx
    let v := py - cy
    let u' := if sx < ex then u + 1 else u - 1
    let v' := if sy < ey then v + 1 else v - 1
    let rr := (sx - cx) * (sx - cx) + (sy - cy) * (sy - cy)
    let errorX := (u' * u' + v * v - rr).natAbs
    let errorY := (u * u + v' * v' - rr).natAbs
    let step := arcStep cx cy sx sy ex ey px py
    (px = ex → py = ey → step = none)
    ∧ (px = ex → py ≠ ey → step = some ⟨.y, decide (sy < ey)⟩)
    ∧ (px ≠ ex → py = ey → step = some ⟨.x, decide (sx < ex)⟩)
    ∧ (px ≠ ex → py ≠ ey → errorX ≤ errorY → step = some ⟨.x, decide (sx < ex)⟩)
    ∧ (px ≠ ex → py ≠ ey → errorY < errorX → step = some ⟨.y, decide (sy < ey)⟩))
  ∧ (∀ (g : SegEntry) (start p : Int × Int),
    (g.kind = segLine → segmentStep g start p.1 p.2 = lineStep start.1 start.2 g.endX g.endY p.1 p.2)
    ∧ ((g.kind = segArcCw ∨ g.kind = segArcCcw) →
      segmentStep g start p.1 p.2 = arcStep g.cenX g.cenY start.1 start.2 g.endX g.endY p.1 p.2)
    ∧ traceSegment g start 0 p = p
    ∧ (∀ n, segmentStep g start p.1 p.2 = none → traceSegment g start (n + 1) p = p)
    ∧ ∀ n st, segmentStep g start p.1 p.2 = some st → traceSegment g start (n + 1) p = traceSegment g start n
        (match st.axis, st.pos with
         | .x, true => (p.1 + 1, p.2) | .x, false => (p.1 - 1, p.2)
         | .y, true => (p.1, p.2 + 1) | .y, false => (p.1, p.2 - 1)))
  ∧ (∀ s : State, nextCutStep s = segmentStep
      (s.js.segment ((s.js.part s.pe.passPart).firstSeg + s.pe.seg)) (startOf s.js s.pe.passPart s.pe.seg)
      s.pe.posX s.pe.posY)
  ∧ (∀ (g : SegEntry) (start : Int × Int), g.kind = segLine →
    traceSegment g start ((g.endX - start.1).natAbs + (g.endY - start.2).natAbs) start = (g.endX, g.endY))
  ∧ ∀ (g : SegEntry) (start : Int × Int), (g.kind = segArcCw ∨ g.kind = segArcCcw) →
    traceSegment g start ((g.endX - start.1).natAbs + (g.endY - start.2).natAbs) start = (g.endX, g.endY)

/-- TRAVERSE_STEP issues one step of the line to the target; at the target the head waits for the jet with a new
thread intent. An issued step drives its axis's direction line, gives that axis one pulse and moves its coordinate by
1, which stays at the limit of the range (log 38); the other axis keeps its lines and its coordinate. The pulses are
counted in pulsesX and pulsesY, which are the model's (log 18). -/
def Obligations.TraverseStepMoves : Prop :=
  (∀ (pos : Bool) (pe : PathEngine),
    let moved (c : Int) : Int := max (-1048575) (min 1048575 (if pos then c + 1 else c - 1))
    issueStep ⟨.x, pos⟩ pe = { pe with dirX := pos, pulsesX := pe.pulsesX + 1, posX := moved pe.posX }
    ∧ issueStep ⟨.y, pos⟩ pe = { pe with dirY := pos, pulsesY := pe.pulsesY + 1, posY := moved pe.posY })
  ∧ ∀ (tr : Traverse) (st : PathStep) (p : Purpose) (s : State),
    s.pe.engine = .traverse → s.pe.traverse = some tr → tr.moving = true → s.ps.activity = .traversing p →
    lineStep tr.sx tr.sy tr.tx tr.ty s.pe.posX s.pe.posY = some st →
      let pe := issueStep st s.pe
      ((pe.posX, pe.posY) ≠ (tr.tx, tr.ty) →
        exec .traverseStep s = .next { s with pe := { pe with stepTimer := some s.now } })
      ∧ ((pe.posX, pe.posY) = (tr.tx, tr.ty) →
        exec .traverseStep s = .next { s with
          pe := { pe with engine := .standby, traverse := none, stepTimer := none }
          ps := { s.ps with head := .waitThread, activity := .waitThread p }
          pva := { s.pva with intent := newIntent .thread s.now } })

/-- FORWARD_CUT_STEP with no mark due and short of the contour end: the step is issued, progress and count
advance, the step joins the log, the recovery count falls, and nothing else changes. -/
def Obligations.ForwardCutStep : Prop :=
  ∀ (st : PathStep) (s : State), s.pe.engine = .pass → s.pe.sub = some .run → s.gc.mode = .feeding →
    s.gc.halted = false → 0 < effectiveFeed s → nextCutStep s = some st →
    let e := s.js.part s.pe.passPart
    let len := s.js.length (e.firstSeg + s.pe.seg)
    let seg := if s.pe.off + 1 = len then s.pe.seg + 1 else s.pe.seg
    let off := if s.pe.off + 1 = len then 0 else s.pe.off + 1
    let moved := issueStep st s.pe
    enginesForward st s = { moved with seg := seg, off := off, count := s.pe.count + 1, stepTimer := some s.now }
    ∧ (seg ≠ e.segCount →
    (∀ m, s.pe.markPtr = some m →
      ¬ ((s.js.mark (e.firstMark + m)).relSeg = seg ∧ (s.js.mark (e.firstMark + m)).offset = off)) →
    exec .forwardCutStep s = .next { s with
      pe := { moved with seg := seg, off := off, count := s.pe.count + 1, stepTimer := some s.now }
      gc := { s.gc with log := (st :: s.gc.log).take 256 }
      eg := { s.eg with recovery := s.eg.recovery - 1 } })

/-- A mark due fires: its flag is set and the pointer moves to the part's next mark or to none. ENERGY sets the
primary level, FEED the feed limit; a HOLD mark ends the rough pass with position, progress, log and accumulator kept,
and by the part's policy the head waits with a release intent, or HELD or TABBED is queued and the wire taken out, the
unthread waiting for queue room where the update must. FORWARD_CUT_STEP makes this check after its step. -/
def Obligations.MarksFire : Prop :=
  (∀ (m : Nat) (s : State),
    let e := s.js.part s.pe.passPart
    let mk := s.js.mark (e.firstMark + m)
    let pe : PathEngine := { s.pe with
      fired := s.pe.fired ||| (1#256 <<< (e.firstMark + m))
      markPtr := if m + 1 < e.markCount then some (m + 1) else none }
    s.pe.markPtr = some m → mk.relSeg = s.pe.seg → mk.offset = s.pe.off →
    s.pe.fired.getLsbD (e.firstMark + m) = false →
      (mk.kind = markEnergy → checkMark s = { s with pe := pe, eg := { s.eg with primary := mk.value } })
      ∧ (mk.kind = markFeed → checkMark s = { s with pe := pe, gc := { s.gc with limit := mk.value } })
      ∧ ∀ p, mk.kind = markHold → s.ps.current = some p →
          let ended : State := { s with
            pe := { pe with
              engine := .standby, passKind := .none, sub := none, remembered := none, awaiting := false
              stepTimer := none }
            gc := { s.gc with
              mode := .idle, halted := false, asked := false, redo := [], stepTimer := none, stallTimer := none } }
          let zone := (s.js.part p).zone
          let tabbed (r : RecState) (flags : Half) : Prop :=
            (s.prs.canJoin p = true → s.ps.job = .running → s.tu.stage = .threaded →
              checkMark s = { ended with
                prs := s.prs.join s.now p (recordWord r zone) false
                ps := { s.ps with
                  held := Memory.write Held.dropped p (.state r) s.ps.held
                  head := .unthreading, activity := .unthreading }
                jp := { s.jp with flags := flags }
                tu := unthreadingSince s.now s.tu })
            ∧ (s.prs.canJoin p = false →
              checkMark s = { ended with ps := { s.ps with
                activity := .recordWait { part := p, state := r, zone := zone, defer := false } .unthread false } })
          ((s.js.part p).policy = policyDrop →
            checkMark s = { ended with
              ps := { s.ps with head := .waitRelease, activity := .waitRelease }
              pva := { s.pva with intent := newIntent .release s.now } })
          ∧ ((s.js.part p).policy = policyTabHold →
            tabbed .held (withFlag (withFlag s.jp.flags flagPartDone) flagPartHeld))
          ∧ ((s.js.part p).policy = policyTabRelease → tabbed .tabbed (withFlag s.jp.flags flagPartDone)))
  ∧ ∀ (st : PathStep) (s : State), s.pe.engine = .pass → s.pe.sub = some .run → s.gc.mode = .feeding →
    s.gc.halted = false → 0 < effectiveFeed s → nextCutStep s = some st →
    exec .forwardCutStep s = .next (checkContour (checkMark { s with
      pe := enginesForward st s
      gc := { s.gc with log := (st :: s.gc.log).take 256 }
      eg := { s.eg with recovery := s.eg.recovery - 1 } }))

/-- The contour end of a release pass drops the part: RELEASED is queued with the part's zone and held, the own
release count and the tally rise, the last-release zone is the part's, and the wire is taken out. At a full queue the
pass ends, the head stays RELEASING, and the update waits for room with the release not yet counted and the wire still
through. Short of it nothing happens. -/
def Obligations.ContourEndReleases : Prop :=
  (∀ s : State, s.pe.seg ≠ (s.js.part s.pe.passPart).segCount → checkContour s = s)
  ∧ ∀ (p : Nat) (s : State), s.pe.engine = .pass → s.pe.passKind = .release →
    s.pe.seg = (s.js.part s.pe.passPart).segCount → s.ps.current = some p →
    (s.prs.canJoin p = false →
      checkContour s = { s with
        pe := { s.pe with
          engine := .standby, passKind := .none, sub := none, remembered := none, awaiting := false
          stepTimer := none }
        gc := { s.gc with
          mode := .idle, halted := false, asked := false, redo := [], stepTimer := none, stallTimer := none }
        ps := { s.ps with activity := .recordWait (updateTo .released p s) .unthread false } })
    ∧ (s.ps.job = .running → s.tu.stage = .threaded → s.prs.canJoin p = true →
      ∃ t, checkContour s = t
        ∧ t.ps.held = Memory.write Held.dropped p (.state .released) s.ps.held
        ∧ t.prs = s.prs.join s.now p (recordWord .released (s.js.part p).zone) false
        ∧ t.ps.ownCount = s.ps.ownCount + 1 ∧ t.ps.lastRelease = some (s.js.part p).zone
        ∧ t.pva.tally = Memory.write 0 (s.js.part p).zone
            (min 255 (Memory.read 0 s.pva.tally (s.js.part p).zone + 1)) s.pva.tally
        ∧ t.jp.flags = withFlag s.jp.flags flagPartDone
        ∧ t.tu.stage = .unthread ∧ t.ps.head = .unthreading
        ∧ t.pe.engine = .standby ∧ t.pe.passKind = .none ∧ t.gc.mode = .idle ∧ t.gc.log = s.gc.log)

/-- A sample replaces A by A − floor(A/8) + V, and the class and Gf follow, in FEEDING, RETRACTING, REPLAYING and both
phases of STALLED (the approach value is 8·To, of class NORMAL); in IDLE or WIRE_WAIT, or while halted, it changes
nothing. Where its class asks for nothing it changes the gap alone; one that clears the gap in RETRACTING or STALLED
TIMING begins the replay, or ends the episode with nothing to replay; SHORT in REPLAYING retracts again, or stalls at
the limits. That a retract step is asked for in one step of the model and made in another is its inference (log 8). -/
def Obligations.SampleFiltered : Prop :=
  ∀ (v : BitVec 10) (s : State),
    let a := s.gc.acc - s.gc.acc / 8 + v.toNat
    let c : GapClass := if a / 8 < s.cfg.ts then .short else if a / 8 ≤ s.cfg.tOpen then .normal else .openGap
    let g : GapControl := { s.gc with acc := a, cls := c }
    filterSample s.cfg v.toNat s.gc = g
    ∧ (s.cfg.ts ≤ s.cfg.tOpen → approach s.cfg s.gc = { s.gc with acc := 8 * s.cfg.tOpen, cls := .normal })
    ∧ ((s.gc.mode = .idle ∨ s.gc.mode = .wireWait ∨ s.gc.halted = true) → exec (.gapSample v) s = .next s)
    ∧ (s.gc.mode = .stalledStuck → s.gc.halted = false → exec (.gapSample v) s = .next { s with gc := g })
    ∧ (s.gc.mode ≠ .idle → s.gc.mode ≠ .wireWait → s.gc.halted = false →
      ∃ t, exec (.gapSample v) s = .next t ∧ t.gc.acc = a ∧ t.gc.cls = c
        ∧ t.tu = s.tu ∧ t.cli = s.cli ∧ t.pva = s.pva ∧ t.prs = s.prs ∧ t.jp = s.jp ∧ t.js = s.js)
    ∧ (s.gc.halted = false →
      ((s.gc.mode = .retracting ∨ s.gc.mode = .stalledTiming) ∧ c = .short ∨ s.gc.mode = .replaying ∧ c ≠ .short) →
      exec (.gapSample v) s = .next { s with gc := g })
    ∧ (s.gc.mode = .retracting → s.gc.halted = false → c ≠ .short →
      let u := completeAsked { s with gc := g }
      (u.gc.redo ≠ [] → exec (.gapSample v) s = .next { s with
        pe := u.pe
        gc := { u.gc with mode := .replaying, asked := false, stepTimer := some s.now, stallTimer := none } })
      ∧ (u.gc.redo = [] → exec (.gapSample v) s = .next { s with
        pe := { u.pe with sub := some .run }
        gc := { u.gc with mode := .feeding, asked := false, stepTimer := none, stallTimer := none }
        eg := { s.eg with recovery := s.cfg.recoverySteps } }))
    ∧ (s.gc.mode = .stalledTiming → s.gc.halted = false → c ≠ .short → s.ps.job = .running →
      (s.gc.redo ≠ [] → exec (.gapSample v) s = .next { s with
        ps := { s.ps with head := passHead s.pe.passKind }
        gc := { g with mode := .replaying, asked := false, stepTimer := some s.now, stallTimer := none } })
      ∧ (s.gc.redo = [] → exec (.gapSample v) s = .next { s with
        ps := { s.ps with head := passHead s.pe.passKind }
        pe := { s.pe with sub := some .run }
        gc := { g with mode := .feeding, asked := false, stepTimer := none, stallTimer := none }
        eg := { s.eg with recovery := s.cfg.recoverySteps } }))
    ∧ (s.gc.mode = .replaying → s.gc.halted = false → c = .short →
      (s.gc.log ≠ [] → s.gc.redo.length < s.cfg.retractMax → exec (.gapSample v) s = .next { s with
        gc := { g with mode := .retracting, asked := true, stepTimer := none } })
      ∧ ((s.gc.log = [] ∨ s.cfg.retractMax ≤ s.gc.redo.length) → s.ps.job = .running →
        exec (.gapSample v) s = .next { s with
          ps := { s.ps with head := .stalled }
          gc := { g with mode := .stalledTiming, asked := false, stepTimer := none, stallTimer := some s.now } }))

/-- A sample that gives SHORT in FEEDING begins a retract episode: the pass enters GAP, and a retract step is asked
for, or the stall begins where the log is empty; one that does not give SHORT changes the gap alone. That the retract
step is made in the row that follows is the model's inference (gc.asked, log 8). -/
def Obligations.ShortBeginsRetract : Prop :=
  ∀ (v : BitVec 10) (s : State), s.gc.mode = .feeding → s.gc.halted = false → s.gc.redo = [] →
    1 ≤ s.cfg.retractMax →
    let g := filterSample s.cfg v.toNat s.gc
    (s.cfg.ts ≤ g.acc / 8 → exec (.gapSample v) s = .next { s with gc := g })
    ∧ (g.acc / 8 < s.cfg.ts → s.gc.log ≠ [] →
      exec (.gapSample v) s = .next { s with
        pe := { s.pe with sub := some .gap }
        gc := { g with mode := .retracting, asked := true, stepTimer := none } })
    ∧ (g.acc / 8 < s.cfg.ts → s.gc.log = [] → s.ps.job = .running →
      exec (.gapSample v) s = .next { s with
        pe := { s.pe with sub := some .gap }
        ps := { s.ps with head := .stalled }
        gc := { g with mode := .stalledTiming, asked := false, stepTimer := none, stallTimer := some s.now } })

/-- RETRACT_STEP undoes the newest log entry: the reverse step is issued, progress and count go back by one with
the borrow, the entry goes to the top of the stack, and the limits are tested. A step asked for
and not yet made, which the model marks in gc.asked (its inference, log 8), is completed so by what ends the episode. -/
def Obligations.RetractStepUndoes : Prop :=
  (∀ (st : PathStep) (rest : List PathStep) (s : State), s.gc.log = st :: rest →
    let e := s.js.part s.pe.passPart
    let moved := issueStep { st with pos := !st.pos } s.pe
    let t : State := { s with
      pe := { moved with
        seg := if 0 < s.pe.off then s.pe.seg else s.pe.seg - 1
        off := if 0 < s.pe.off then s.pe.off - 1 else s.js.length (e.firstSeg + (s.pe.seg - 1)) - 1
        count := s.pe.count - 1, stepTimer := some s.now }
      gc := { s.gc with log := rest, redo := st :: s.gc.redo, asked := false, stepTimer := some s.now } }
    retractOnce s = t ∧ (s.gc.asked = true → completeAsked s = t)
    ∧ (s.gc.mode = .retracting → s.gc.halted = false →
      (¬ (s.gc.cls = .short ∧ (rest = [] ∨ s.cfg.retractMax ≤ s.gc.redo.length + 1)) →
        exec .retractStep s = .next t)
      ∧ (s.gc.cls = .short → (rest = [] ∨ s.cfg.retractMax ≤ s.gc.redo.length + 1) → s.ps.job = .running →
        exec .retractStep s = .next { t with
          ps := { s.ps with head := .stalled }
          gc := { t.gc with mode := .stalledTiming, stepTimer := none, stallTimer := some s.now } })))
  ∧ ∀ s : State, (s.gc.asked = false ∨ s.gc.log = []) → completeAsked s = s

/-- REPLAY_STEP with no mark due and short of the contour end: the top entry is taken as a forward cut step and
logged again; with the stack empty after it the episode ends and the recovery count is loaded. -/
def Obligations.ReplayStepReplays : Prop :=
  ∀ (st : PathStep) (rest : List PathStep) (s : State), s.gc.mode = .replaying → s.gc.halted = false →
    0 < effectiveFeed s → s.gc.redo = st :: rest → s.pe.engine = .pass →
    let e := s.js.part s.pe.passPart
    let len := s.js.length (e.firstSeg + s.pe.seg)
    let seg := if s.pe.off + 1 = len then s.pe.seg + 1 else s.pe.seg
    let off := if s.pe.off + 1 = len then 0 else s.pe.off + 1
    let moved := issueStep st s.pe
    let pe : PathEngine := { moved with seg := seg, off := off, count := s.pe.count + 1, stepTimer := some s.now }
    let log := (st :: s.gc.log).take 256
    seg ≠ e.segCount →
    (∀ m, s.pe.markPtr = some m →
      ¬ ((s.js.mark (e.firstMark + m)).relSeg = seg ∧ (s.js.mark (e.firstMark + m)).offset = off)) →
    (rest ≠ [] → exec .replayStep s = .next { s with
        pe := pe
        gc := { s.gc with log := log, redo := rest, stepTimer := some s.now }
        eg := { s.eg with recovery := s.eg.recovery - 1 } })
    ∧ (rest = [] → exec .replayStep s = .next { s with
        pe := { pe with sub := some .run }
        gc := { s.gc with
          log := log, redo := [], mode := .feeding, asked := false, stepTimer := none, stallTimer := none }
        eg := { s.eg with recovery := s.cfg.recoverySteps } })

/-- A replay step undoes a retract step: after both, the position, the progress and the count are what they were,
while the position is off the limits and the progress is inside the part. -/
def Obligations.ReplayUndoesRetract : Prop :=
  ∀ (st : PathStep) (rest : List PathStep) (s : State),
    s.gc.log = st :: rest → -1048574 ≤ s.pe.posX → s.pe.posX ≤ 1048574 → -1048574 ≤ s.pe.posY →
    s.pe.posY ≤ 1048574 → 1 ≤ s.pe.count → (s.pe.off = 0 → 1 ≤ s.pe.seg) →
    (s.pe.off = 0 → 1 ≤ s.js.length ((s.js.part s.pe.passPart).firstSeg + (s.pe.seg - 1))) →
    s.pe.off + 1 ≤ s.js.length ((s.js.part s.pe.passPart).firstSeg + s.pe.seg) →
      let pe := enginesForward st (retractOnce s)
      pe.posX = s.pe.posX ∧ pe.posY = s.pe.posY ∧ pe.seg = s.pe.seg ∧ pe.off = s.pe.off
        ∧ pe.count = s.pe.count

/-- The stall timer's expiry in phase TIMING sets SHORT_STUCK and enters STUCK; the warning timer's expiry with the
thread intent still held sets ADMIT_SLOW, once for each intent. -/
def Obligations.WarningTimers : Prop :=
  ∀ s : State,
    (s.gc.mode = .stalledTiming → s.gc.halted = false →
      exec .stallTimerExpiry s = .next { s with
        gc := { s.gc with mode := .stalledStuck, stallTimer := none }, jp := flagged flagShortStuck s.jp })
    ∧ (s.pva.intent.kind = .thread → s.pva.intent.warnTimer ≠ none →
      ∃ t, exec .threadWarningExpiry s = .next t
        ∧ t = { s with
            jp := flagged flagAdmitSlow s.jp
            pva := { s.pva with intent := { s.pva.intent with warnTimer := none } } }
        ∧ exec .threadWarningExpiry t = .next t)

/-- The causes: a peer heard lately, not foreign, THREADING or RELEASING in a zone neighbouring the pass part's, while
a pass is loaded; and a recovery count above 0. The active level: the primary level with no enabled cause holding,
else the lesser of it and Eovr. The unscaled feed F: the limit in OPEN, and in NORMAL at Gf ≥ Gt; below Gt floor(limit
· (Gf − Ts) / (Gt − Ts)); 0 in SHORT. The effective feed is floor(F · Eact / Eprim), so it never exceeds the limit and
is 0 at level 0 or class SHORT; with no primary level, as after a reset, it is 0 (R72). The outputs: PULSE_EN while
the pulse window is open and the level is above 0, and E[3:0] the level then and else 0. The actuator lines of the
threader by its stage, and its six
threading stages. -/
def Obligations.ActiveLevelAndFeed : Prop :=
  (∀ s : State,
    (peerThreadNear s = true ↔ s.pe.engine = .pass ∧ PeerNear .threading s)
    ∧ (peerReleaseNear s = true ↔ s.pe.engine = .pass ∧ PeerNear .releasing s)
    ∧ (recoveryHolds s = true ↔ 0 < s.eg.recovery)
    ∧ (let held := (s.cfg.enThread = true ∧ peerThreadNear s = true)
        ∨ (s.cfg.enRelease = true ∧ peerReleaseNear s = true) ∨ (s.cfg.enRecovery = true ∧ 0 < s.eg.recovery)
      (¬ held → eact s = s.eg.primary) ∧ (held → eact s = min s.eg.primary s.cfg.eovr))
    ∧ (let gf := s.gc.acc / 8
      let full := s.gc.limit
      let feed : Nat := match s.gc.cls with
        | .short => 0
        | .normal => if s.cfg.gt ≤ gf then full else full * (gf - s.cfg.ts) / (s.cfg.gt - s.cfg.ts)
        | .openGap => full
      effectiveFeed s = feed * eact s / s.eg.primary)
    ∧ (s.cfg.ts < s.cfg.gt → effectiveFeed s ≤ s.gc.limit)
    ∧ (eact s = 0 ∨ s.gc.cls = .short → effectiveFeed s = 0)
    ∧ (pulseEn s = true ↔ s.pe.engine = .pass ∧ s.gc.halted = false ∧ 0 < eact s
        ∧ (s.gc.mode = .feeding ∨ s.gc.mode = .retracting ∨ s.gc.mode = .replaying ∨ s.gc.mode = .stalledTiming
          ∨ s.gc.mode = .stalledStuck))
    ∧ (pulseEn s = true → energyLines s = eact s) ∧ (pulseEn s = false → energyLines s = 0))
  ∧ ∀ st : Stage,
    (st.threading = true ↔ st = .sever ∨ st = .anneal ∨ st = .jet ∨ st = .feed ∨ st = .capture ∨ st = .withdraw)
    ∧ (lineCut st = true ↔ st = .sever ∨ st = .unthread) ∧ (lineAnneal st = true ↔ st = .anneal)
    ∧ (lineJet st = true ↔ st = .jet ∨ st = .feed ∨ st = .capture) ∧ (lineFeed st = true ↔ st = .feed)
    ∧ (lineWithdraw st = true ↔ st = .withdraw) ∧ (lineTension st = true ↔ st = .capture ∨ st = .threaded)

/-! ## Threading -/

/-- SEVER ends on its timer in ANNEAL; ANNEAL ends in JET, JET on JET_OK in FEED, FEED on PICKUP in CAPTURE, each at
once where its line is already asserted, and CAPTURE waits for WIRE_OK; with every line asserted the attempt runs
through to its capture in the one step. That the level of PICKUP is an operand of the rows that read it, noted in
tu.pickup, is the model's DESIGN CHOICE (log 5). -/
def Obligations.StagesFollow : Prop :=
  ∀ (pickup : Bool) (s : State),
    let captured : Result := exec .wireOkRise { s with
      tu := { s.tu with stage := .capture, jetOk := true, pickup := true } }
    (s.tu.stage = .sever → exec .severTimerExpiry s = .next { s with tu := inStage .anneal s.now s.tu })
    ∧ (s.tu.stage = .anneal → s.tu.jetOk = false →
      exec (.annealTimerExpiry pickup) s
        = .next { s with tu := { inStage .jet s.now s.tu with pickup := pickup } })
    ∧ (s.tu.stage = .anneal → s.tu.jetOk = true → pickup = false →
      exec (.annealTimerExpiry pickup) s
        = .next { s with tu := { inStage .feed s.now s.tu with pickup := pickup } })
    ∧ (s.tu.stage = .anneal → s.tu.jetOk = true → pickup = true → s.tu.wireOk = false →
      exec (.annealTimerExpiry pickup) s
        = .next { s with tu := { inStage .capture s.now s.tu with pickup := pickup } })
    ∧ (s.tu.stage = .anneal → s.tu.jetOk = true → pickup = true → s.tu.wireOk = true →
      exec (.annealTimerExpiry pickup) s = captured)
    ∧ (s.tu.stage = .jet → pickup = false →
      exec (.jetOkRise pickup) s
        = .next { s with tu := { inStage .feed s.now s.tu with jetOk := true, pickup := false } })
    ∧ (s.tu.stage = .jet → pickup = true → s.tu.wireOk = false →
      exec (.jetOkRise pickup) s
        = .next { s with tu := { inStage .capture s.now s.tu with jetOk := true, pickup := true } })
    ∧ (s.tu.stage = .jet → pickup = true → s.tu.wireOk = true → exec (.jetOkRise pickup) s = captured)
    ∧ (s.tu.stage = .feed → s.tu.wireOk = false →
      exec .pickupRise s = .next { s with tu := { inStage .capture s.now s.tu with pickup := true } })
    ∧ (s.tu.stage = .feed → s.tu.jetOk = true → s.tu.wireOk = true → exec .pickupRise s = captured)

/-- An attempt fails by the JET wait, by FEED's timer, by CAPTURE's timer or by a falling JET_OK: the count rises,
stopping at 8, and WITHDRAW begins; JET_FAULT is set by the jet alone. -/
def Obligations.AttemptsFail : Prop :=
  ∀ s : State,
    (s.tu.stage = .jet →
      exec .jetTimeout s
        = .next { s with tu := failedAttempt s.now s.tu, jp := flagged flagJetFault s.jp })
    ∧ (s.tu.stage = .feed → exec .feedTimeout s = .next { s with tu := failedAttempt s.now s.tu })
    ∧ (s.tu.stage = .capture → exec .captureTimeout s = .next { s with tu := failedAttempt s.now s.tu })
    ∧ ((s.tu.stage = .feed ∨ s.tu.stage = .capture) →
      exec .jetOkFall s = .next { s with
        tu := { failedAttempt s.now s.tu with jetOk := false }, jp := flagged flagJetFault s.jp })
    ∧ (s.tu.stage ≠ .feed → s.tu.stage ≠ .capture →
      exec .jetOkFall s = .next { s with tu := { s.tu with jetOk := false } })

/-- WITHDRAW ends in SEVER below the attempt limit of the mode; at the limit the threading has failed: THREAD_FAIL is
set, the unit is IDLE with no line driven, and no unthread follows. A failed start-hole threading, and the rethreading
of a rough pass, make the part ABANDONED; that of a release-phase part, of a hold-point wait or of a release pass
HELD; a pass still loaded is ended. The walk then goes on, or the update waits for queue room with the head IDLE. The
current part at a boundary is the model's choice (log 44), and so is the head in the record wait of a failed budget
pre-check (log 45). -/
def Obligations.WithdrawEnds : Prop :=
  ∀ s : State, s.tu.stage = .withdraw →
    let limit := if s.tu.mode = .kerf then s.cfg.kerfTries else s.cfg.threadTries
    (s.tu.failed < limit → exec .withdrawEnd s = .next { s with tu := inStage .sever s.now s.tu })
    ∧ (∀ p, limit ≤ s.tu.failed → s.ps.activity = .threading .startHole → s.ps.current = some p →
      s.prs.canJoin p = true →
      ∃ t, exec .withdrawEnd s = .next t ∧ t.tu = lineless s.tu
        ∧ t.jp.flags.getLsbD flagThreadFail = true ∧ t.jp.flags.getLsbD flagPartDone = true
        ∧ t.gc = s.gc ∧ t.pe.posX = s.pe.posX ∧ t.pe.posY = s.pe.posY)
    ∧ ∀ p u, limit ≤ s.tu.failed → s.ps.activity = .threading u → s.ps.current = some p →
      let w : State := { (if u = .rethreadPass then passEnded s else s) with
        tu := lineless s.tu, jp := flagged flagThreadFail s.jp }
      let fails (r : RecState) : Prop :=
        (s.prs.canJoin p = true → GoesOn (exec .withdrawEnd s) (noted (updateTo r p s) w))
        ∧ (s.prs.canJoin p = false → s.ps.job = .running →
          exec .withdrawEnd s = .next { w with ps := { s.ps with
            head := .idle, activity := .recordWait (updateTo r p s) .nextPart false } })
      (u = .startHole ∨ u = .startHoleAgain ∨ (u = .rethreadPass ∧ s.pe.passKind = .rough) → fails .abandoned)
      ∧ (u = .releaseKerf ∨ u = .rethreadHold ∨ (u = .rethreadPass ∧ s.pe.passKind = .release) → fails .held)

/-- A START_HOLE capture: the count is 0, the progress (0, 0), the log empty, the accumulator 8·To, CUTTING is
queued and the rough pass loaded with the part's Eprim and Fmax, the mark pointer at its first mark not yet fired; a
second capture at the start hole does the same, and
with no room in the queue the pass load waits with the head CUTTING. A capture in a rethreading of a broken pass: the
count is 0, the progress as the break left it, and the pass runs on in FEEDING. A KERF capture at a hold position, of a
release-phase part or after a break in the wait there: the count is 0, the log empty, the accumulator 8·To, no pass is
loaded, and the head waits with a new release intent. -/
def Obligations.Captures : Prop :=
  (∀ (p : Nat) (s : State), s.tu.stage = .capture → s.tu.mode = .startHole →
    (s.ps.activity = .threading .startHole ∨ s.ps.activity = .threading .startHoleAgain) → s.ps.current = some p →
    s.prs.canJoin p = true →
    let e := s.js.part p
    ∃ t, exec .wireOkRise s = .next t
      ∧ t.tu = { s.tu with stage := .threaded, mode := .none, timer := none, wireOk := true }
      ∧ t.prs = s.prs.join s.now p (recordWord .cutting e.zone) false ∧ RoughPassRuns p s t
      ∧ t.pe.count = 0 ∧ t.gc.log = [] ∧ t.gc.redo = [] ∧ t.gc.acc = 8 * s.cfg.tOpen
      ∧ t.jp = s.jp ∧ t.cli = s.cli ∧ t.pva = s.pva)
  ∧ (∀ (p : Nat) (s : State), s.tu.stage = .capture → s.tu.mode = .startHole →
    (s.ps.activity = .threading .startHole ∨ s.ps.activity = .threading .startHoleAgain) → s.ps.current = some p →
    s.prs.canJoin p = false → s.ps.job = .running →
    exec .wireOkRise s = .next { s with
      tu := { s.tu with stage := .threaded, mode := .none, timer := none, wireOk := true }
      pe := { s.pe with count := 0, seg := 0, off := 0 }
      gc := { approach s.cfg s.gc with log := [] }
      ps := { s.ps with head := .cutting, activity := .recordWait (updateTo .cutting p s) .loadRough false } })
  ∧ (∀ s : State, s.tu.stage = .capture → s.tu.mode = .kerf →
    (s.ps.activity = .threading .releaseKerf ∨ s.ps.activity = .threading .rethreadHold) →
    exec .wireOkRise s = .next { s with
      tu := { s.tu with stage := .threaded, mode := .none, timer := none, wireOk := true }
      pe := { s.pe with count := 0 }
      gc := { approach s.cfg s.gc with log := [] }
      ps := { s.ps with head := .waitRelease, activity := .waitRelease }
      pva := { s.pva with intent := newIntent .release s.now } })
  ∧ ∀ s : State, s.tu.stage = .capture → s.tu.mode = .kerf → s.ps.activity = .threading .rethreadPass →
    exec .wireOkRise s = .next { s with
      tu := { s.tu with stage := .threaded, mode := .none, timer := none, wireOk := true }
      pe := { s.pe with
        count := 0, sub := some .run, remembered := none, awaiting := false, stepTimer := some s.now }
      gc := { approach s.cfg s.gc with
        log := [], redo := [], mode := .feeding, halted := false, asked := false }
      ps := { s.ps with head := passHead s.pe.passKind, activity := .passing } }

/-- A loss of wire in a pass, or in a hold-point wait, is a wire break: the flag is set and a KERF rethreading asked
for, at once in RUNNING and after RESUME in HALTED. In the record wait for CUTTING it is none: the update stands, and
a new threading at the same start hole follows it in place of the pass. With the result queued or waiting the unit
alone changes, and the unthread that follows the update is complete at once. Out of THREADED the level alone changes.
The model's inferences: what a loss finds once the update has joined in the wait (recordWait with its mark set,
recordJoined: log 12), that the frame on the line no longer announces the withdrawn release intent (log 30), and that
a retract step asked for is completed here (log 8). -/
def Obligations.WireLost : Prop :=
  (∀ s : State, s.tu.stage = .threaded →
    let tu : ThreadUnit := { lineless s.tu with wireOk := false }
    (s.ps.activity = .passing →
      let u := completeAsked s
      let b : State := { s with
        tu := tu, jp := flagged flagWireBreak s.jp
        pe := { u.pe with sub := some .stopped, remembered := none, awaiting := true, stepTimer := none }
        gc := { u.gc with
          mode := .wireWait, halted := false, asked := false, redo := [], stepTimer := none, stallTimer := none }
        eg := { s.eg with recovery := 0 } }
      (s.ps.job = .running → exec .wireOkFall s = .next { b with
        ps := { s.ps with head := .waitThread, activity := .waitThread .rethreadPass }
        pva := { s.pva with intent := newIntent .thread s.now } })
      ∧ (s.ps.job ≠ .running → exec .wireOkFall s = .next { b with
        ps := { s.ps with activity := .waitThread .rethreadPass } }))
    ∧ (s.ps.activity = .waitRelease → s.ps.job = .running →
      exec .wireOkFall s = .next { s with
        tu := tu, jp := flagged flagWireBreak s.jp, cli := noLongerLive s.cli
        ps := { s.ps with head := .waitThread, activity := .waitThread .rethreadHold }
        pva := { s.pva with intent := newIntent .thread s.now } })
    ∧ (s.ps.activity = .waitRelease → s.ps.job ≠ .running →
      exec .wireOkFall s = .next { s with
        tu := tu, jp := flagged flagWireBreak s.jp, cli := noLongerLive s.cli
        ps := { s.ps with activity := .waitThread .rethreadHold }
        pva := { s.pva with intent := Intent.empty } })
    ∧ (∀ u joined, s.ps.activity = .recordWait u .loadRough joined →
      exec .wireOkFall s = .next { s with
        tu := tu, ps := { s.ps with activity := .recordWait u .threadAgain joined } })
    ∧ (s.ps.activity = .recordJoined .loadRough →
      exec .wireOkFall s = .next { s with
        tu := tu, ps := { s.ps with activity := .waitThread .startHoleAgain } })
    ∧ (((∃ u joined, s.ps.activity = .recordWait u .unthread joined) ∨ s.ps.activity = .recordJoined .unthread) →
      exec .wireOkFall s = .next { s with tu := tu }))
  ∧ (∀ s : State, s.tu.stage ≠ .threaded →
    exec .wireOkFall s = .next { s with tu := { s.tu with wireOk := false } })
  ∧ ∀ (u : PartUpdate) (s : State), s.ps.job = .running →
    (s.ps.activity = .recordWait u .threadAgain true →
      exec .recordWaitEnd s = .next { s with
        ps := { s.ps with head := .waitThread, activity := .waitThread .startHoleAgain }
        pva := { s.pva with intent := newIntent .thread s.now } })
    ∧ (∀ p, s.ps.activity = .recordWait u .unthread true → s.tu.stage = .idle → s.ps.marker = false →
      s.ps.phase = .rough → FirstFrom s.ps.scan (HeldAs .uncut s) p →
      exec .recordWaitEnd s = .next (roughTaken p s))

/-- The UNTHREAD timer's expiry: the unit is IDLE; with the record-fault marker set the job halts with reason RECORD;
while the job is HALTED the walk stands at the part boundary; in RUNNING the next part is taken up: in the rough phase
the next UNCUT part, after the last of them the release phase, in which the next TABBED part of the table pass, then
the front of the deferred list with its attempts, each HELD in place or waiting for queue room where its budget fails,
and with none left the job is DONE. Where the update of the part still waits for room, or has joined with its sequence
standing (the model's inferences, logs 11, 7), the unit alone is IDLE, and the walk follows the update. That the
finished part stays the current one at the boundary is the model's choice (log 44), and so is the head in the record
wait of a failed budget pre-check (log 45). -/
def Obligations.UnthreadEnds : Prop :=
  ∀ s : State, s.tu.stage = .unthread →
    (s.ps.activity = .unthreading → GoesOn (exec .unthreadTimerExpiry s) { s with tu := lineless s.tu })
    ∧ (∀ u joined, s.ps.activity = .recordWait u .unthreadRunning joined →
      exec .unthreadTimerExpiry s = .next { s with
        tu := lineless s.tu, ps := { s.ps with activity := .recordWait u .nextPart joined } })

/-! ## The line and admission -/

/-- The own slot with no intent announced, in every line mode but OFF: the quiet count, which sets LINE_LOST on
reaching 16, and the peers age: one heard since the last own slot is FRESH with no missed round, one not heard has
missed one more, up to 16, and is FRESH to 2, STALE to 15 and ABSENT at 16; one never heard stays so. In ACTIVE, and
in the slot that ends LISTEN, the frame is formed from the values as they stand and sent, or a collision is counted
and BACKOFF entered; an earlier slot of LISTEN counts down and sends nothing, BACKOFF sends nothing and becomes
ACTIVE, STUCK, SOLO and NO_SLOT send nothing; in SOLO and NO_SLOT the frame of a waiting head announces its intent,
and SOLO keeps no quiet count. The model's own: the arrival is taken whenever its row comes (log 31), at the instant
of its clock (log 4); LISTEN is left by a count of slots (log 35); every arrival puts the next one a round after
itself, over a re-alignment that a frame taken at the same instant had made (DESIGN CHOICE, log 42); and a frame
formed, or a collision counted, while one is still being sent takes that one's place (DESIGN CHOICE, log 37). -/
def Obligations.OwnSlotSends : Prop :=
  (∀ e : Peer,
    let missed := min 16 (e.missed + 1)
    (e.live = .never → e.aged = e)
    ∧ (e.live ≠ .never → e.heard = true → e.aged = { e with missed := 0, live := .fresh, heard := false })
    ∧ (e.live ≠ .never → e.heard = false → e.aged = { e with
        missed := missed, live := if missed ≤ 2 then .fresh else if missed ≤ 15 then .stale else .absent }))
  ∧ ∀ (t : Nat) (driven : Bool) (s : State), s.cli.mode ≠ .off → s.pva.intent.lastAge = none →
    let sends := s.cli.mode = .active ∨ (s.cli.mode = .listen ∧ s.cli.listenLeft ≤ 1)
    ∃ u, exec (.ownSlotArrival t driven) s = .next u
      ∧ u.now = max s.now t ∧ u.cli.nextSlot = some (u.now + s.cfg.cellSize * 128) ∧ u.cli.lastSlot = some u.now
      ∧ u.pva.peers = s.pva.peers.map (fun e => (e.1, e.2.aged)) ∧ u.pva.intent = intentAtSlot u.now s
      ∧ u.cli.quiet = (if s.cli.mode = .solo then s.cli.quiet
          else if s.cli.heard then 0 else min 16 (s.cli.quiet + 1))
      ∧ u.jp = { s.jp with flags := quietFlags s }
      ∧ (sends → driven = true → u.cli.mode = .backoff ∧ u.cli.collision = min 65535 (s.cli.collision + 1)
          ∧ u.cli.sending = none)
      ∧ (sends → driven = false → u.cli.mode = .active ∧ u.cli.collision = s.cli.collision ∧ ∃ x, u.cli.sending = some x
          ∧ x.frame.station = BitVec.ofNat 4 s.cli.station
          ∧ x.frame.head = BitVec.ofNat 4 (headCode s.ps.head)
          ∧ (∀ p, s.ps.current = some p → x.frame.zone = BitVec.ofNat 6 (s.js.part p).zone)
          ∧ (s.ps.current = none → x.frame.zone = BitVec.ofNat 6 s.ps.takenZone)
          ∧ x.frame.age = (if s.ps.head = .waitThread ∨ s.ps.head = .waitRelease
              then BitVec.ofNat 4 s.pva.intent.ageToSend else 0)
          ∧ x.frame.plate = s.prs.announced ∧ x.frame.count = s.ps.ownCount
          ∧ x.frame.lastZone = BitVec.ofNat 6 (s.ps.lastRelease.getD 0)
          ∧ x.frame.lastValid = s.ps.lastRelease.isSome)
      ∧ (¬ sends → u.cli.sending = s.cli.sending ∧ u.cli.collision = s.cli.collision)
      ∧ (s.cli.mode = .listen → 1 < s.cli.listenLeft →
          u.cli.mode = .listen ∧ u.cli.listenLeft = s.cli.listenLeft - 1)
      ∧ (s.cli.mode = .backoff → u.cli.mode = .active)
      ∧ ((s.cli.mode = .stuck ∨ s.cli.mode = .solo ∨ s.cli.mode = .noSlot) → u.cli.mode = s.cli.mode)
      ∧ u.ps = s.ps ∧ u.pe = s.pe ∧ u.gc = s.gc ∧ u.tu = s.tu ∧ u.prs = s.prs

/-- The thread decision grants when fewer peers than JetLimit are counted and no neighbour releases, and else waits. A
peer heard lately counts, foreign or not, that is THREADING, or in WAIT_THREAD ahead of the own intent: STALE, of
greater age, or of equal age and lower number. A neighbour releases that is heard lately and not foreign, in a zone
neighbouring the announced one: the current part's, or with none the last taken up. A grant at an own slot, in SOLO or
in ACTIVE with a peer heard, starts the threading and ends the intent; in ACTIVE the frame of the same slot announces
THREADING. So in every line mode but OFF: with the link LOST or in NO_SLOT the answer is WAIT, in SOLO no peer is
counted, else the table decides; WAIT leaves head and unit as they were; a grant starts an idle unit and restarts a
paused one in SEVER with its mode and its failed count. That a frame on the line no longer announces an intent that
ended is the model's inference (log 30); so is that the arrival is taken whenever its row comes (log 31). The instant
is its clock (log 4), and that the frame of the slot takes the place of one still being sent its DESIGN CHOICE (log
37). -/
def Obligations.ThreadGranted : Prop :=
  let mode (p : Purpose) : ThreadMode := if p = .startHole ∨ p = .startHoleAgain then .startHole else .kerf
  (∀ (s : State) (age : Nat) (e : Nat × Peer),
    (countsForJet s.cli.station age e = true ↔ (e.2.live = .fresh ∨ e.2.live = .stale)
      ∧ (e.2.head.toNat = headCode .threading ∨ (e.2.head.toNat = headCode .waitThread ∧ Ahead s age e)))
    ∧ (∀ zone h, e.2.near s.cfg.zx zone h = true ↔ ShowsNear s.cfg.zx zone h e.2)
    ∧ (∀ p, s.ps.current = some p → announcedZone s = (s.js.part p).zone)
    ∧ (s.ps.current = none → announcedZone s = s.ps.takenZone))
  ∧ (∀ (s : State) (age : Nat) (peers : Memory Peer),
    threadDecision s age peers =
      if peers.countP (countsForJet s.cli.station age) < s.cfg.jetLimit
          ∧ ∀ e ∈ peers, e.2.near s.cfg.zx (announcedZone s) .releasing = false then .grant else .wait)
  ∧ (∀ (t : Nat) (p : Purpose) (age : Nat) (s : State), s.ps.activity = .waitThread p →
    s.pva.intent.kind = .thread → s.pva.intent.lastAge = some age → s.tu.stage = .idle →
      let started (u : State) : Prop :=
        u.tu.stage = .sever ∧ u.tu.mode = mode p ∧ u.tu.failed = 0 ∧ u.ps.head = .threading
          ∧ u.ps.activity = .threading p ∧ u.pva.intent = Intent.empty ∧ u.pe = s.pe ∧ u.gc = s.gc
      (s.cli.mode = .solo → 1 ≤ s.cfg.jetLimit →
        ∃ u, exec (.ownSlotArrival t false) s = .next u ∧ started u ∧ u.cli.sending = s.cli.sending.map fun x =>
          { x with live := false })
      ∧ (s.cli.mode = .active → s.cli.heard = true →
        threadDecision s age (s.pva.peers.map fun e => (e.1, e.2.aged)) = .grant →
        ∃ u x, exec (.ownSlotArrival t false) s = .next u ∧ started u ∧ u.cli.sending = some x
          ∧ x.frame.head = BitVec.ofNat 4 (headCode .threading) ∧ x.frame.age = 0))
  ∧ ∀ (t : Nat) (p : Purpose) (age : Nat) (driven : Bool) (s : State), s.ps.activity = .waitThread p →
    s.pva.intent.kind = .thread → s.pva.intent.lastAge = some age → s.cli.mode ≠ .off →
    let v : State := { s with
      now := max s.now t, pva := { s.pva with peers := s.pva.peers.map fun q => (q.1, q.2.aged) } }
    let d := if linkDown s.cli then Verdict.wait
      else threadDecision v age (if s.cli.mode = .solo then [] else v.pva.peers)
    (d = .wait → ∃ u, exec (.ownSlotArrival t driven) s = .next u ∧ u.ps = s.ps ∧ u.tu = s.tu ∧ u.pe = s.pe
      ∧ u.gc = s.gc ∧ u.prs = s.prs ∧ u.pva.intent = intentAtSlot v.now s ∧ u.jp = { s.jp with flags := quietFlags s })
    ∧ (d = .grant → (s.tu.stage = .idle ∨ s.tu.stage = .paused) →
      ∃ u, exec (.ownSlotArrival t driven) s = .next u
        ∧ u.tu = (if s.tu.stage = .paused then inStage .sever v.now s.tu
            else { s.tu with stage := .sever, mode := mode p, failed := 0, timer := some v.now })
        ∧ u.ps = { s.ps with head := .threading, activity := .threading p } ∧ u.pva.intent = Intent.empty
        ∧ u.pe = s.pe ∧ u.gc = s.gc ∧ u.prs = s.prs)

/-- The release decision, in its order: a failed budget denies, a neighbour in the way makes it wait or expire, and
else it is granted. In the way stands a peer heard lately and not foreign, in a neighbouring zone, that is THREADING
or RELEASING, or in WAIT_RELEASE ahead of the own intent. The budget weighs the zone's tally and the unattributed
total: cumulative less attributed releases of every peer heard and not foreign. And the answer acted on at the own
slot, in every line mode but OFF, with no peer in SOLO, and with the link LOST or in NO_SLOT none granted: DENIED if
the budget fails, EXPIRED if ReleaseWait is over, else WAIT. WAIT changes nothing of the head; a grant loads the
release pass at the HOLD mark, with the marks up to it fired and the pointer at the next not yet fired; DENIED makes
the part HELD; EXPIRED makes it TABBED and deferred in the rough phase, and in the release phase raises its attempts,
to be deferred again or HELD; all but WAIT end the intent, and all but the grant take the wire out. With no room in
the queue the update waits with the head UNTHREADING, the unthread after it, or begun before it where the last attempt
expired (the model's inference, log 11). EXPIRED and the timers are taken at the model's clock (log 4), the arrival
whenever its row comes (log 31); that the frame of the slot takes the place of one still being sent is the model's
DESIGN CHOICE (log 37). -/
def Obligations.ReleaseDecided : Prop :=
  (∀ (s : State) (age : Nat) (peers : Memory Peer),
    let zone := announcedZone s
    let passes := Memory.read 0 s.pva.tally zone + unattributed s.pva < s.cfg.dropLimit
    let near (h : HeadState) (e : Nat × Peer) : Prop := ShowsNear s.cfg.zx zone h e.2
    let blocks (e : Nat × Peer) : Prop :=
      near .threading e ∨ near .releasing e ∨ (near .waitRelease e ∧ Ahead s age e)
    let blocked := ∃ e ∈ peers, blocks e
    (¬ passes → releaseDecision s age peers = .denied)
    ∧ (passes → blocked → releaseDecision s age peers = if releaseWaitOver s then .expired else .wait)
    ∧ (passes → ¬ blocked → releaseDecision s age peers = .grant))
  ∧ (∀ v : PeerView, unattributed v = (v.peers.map fun e => unattributedOf e.2).sum)
  ∧ ∀ (t p age : Nat) (s : State), s.ps.activity = .waitRelease → s.ps.current = some p →
    s.pva.intent.kind = .release → s.pva.intent.lastAge = some age → s.cli.mode ≠ .off →
    s.ps.job = .running → s.tu.stage = .threaded →
    let e := s.js.part p
    let v : State := { s with
      now := max s.now t, pva := { s.pva with peers := s.pva.peers.map fun q => (q.1, q.2.aged) } }
    let spent : Bool := match s.pva.intent.firstAt with
      | some f => decide (f + s.cfg.releaseWait * 100 * 2000 ≤ v.now)
      | none => false
    let d := if linkDown s.cli then
        (if Memory.read 0 s.pva.tally e.zone + unattributed v.pva < s.cfg.dropLimit then
          (if spent then Verdict.expired else .wait) else .denied)
      else releaseDecision v age (if s.cli.mode = .solo then [] else v.pva.peers)
    let n := s.ps.attempts.getD 0 + 1
    let flags := quietFlags s
    let unthreads (u : State) : Prop :=
      exec (.ownSlotArrival t false) s = .next u ∧ u.pva.intent = Intent.empty ∧ u.ps.head = .unthreading
        ∧ u.ps.activity = .unthreading ∧ u.tu = unthreadingSince v.now s.tu
    let waits (x : PartUpdate) (k : Follow) (tu : ThreadUnit) : Prop :=
      ∃ u, exec (.ownSlotArrival t false) s = .next u ∧ u.pva.intent = Intent.empty ∧ u.tu = tu ∧ u.prs = s.prs
        ∧ u.ps = { s.ps with head := .unthreading, activity := .recordWait x k false }
    (releaseWaitOver v = spent)
    ∧ (d = .wait → ∃ u, exec (.ownSlotArrival t false) s = .next u ∧ u.ps = s.ps
      ∧ u.pva.intent = intentAtSlot v.now s ∧ u.prs = s.prs ∧ u.tu = s.tu ∧ u.pe = s.pe)
    ∧ (∀ h, d = .grant →
      FirstFrom 0 (fun m => m < e.markCount ∧ (s.js.mark (e.firstMark + m)).kind = markHold) h →
      ∃ u, exec (.ownSlotArrival t false) s = .next u ∧ u.pva.intent = Intent.empty
        ∧ u.ps.head = .releasing ∧ u.ps.activity = .passing ∧ u.pe.engine = .pass ∧ u.pe.passPart = p
        ∧ u.pe.passKind = .release ∧ u.pe.sub = some .run
        ∧ u.pe.seg = (s.js.mark (e.firstMark + h)).relSeg ∧ u.pe.off = (s.js.mark (e.firstMark + h)).offset
        ∧ (∀ b, b < 256 → u.pe.fired.getLsbD b
            = (s.pe.fired.getLsbD b || decide (e.firstMark ≤ b ∧ b ≤ e.firstMark + h)))
        ∧ PointsAtUnfired u.pe.fired e (h + 1) u.pe.markPtr ∧ u.pe.count = s.pe.count
        ∧ u.gc.mode = .feeding ∧ u.gc.limit = e.fmax ∧ u.gc.log = s.gc.log ∧ u.gc.acc = s.gc.acc
        ∧ u.eg.primary = e.eprim ∧ u.eg.recovery = 0 ∧ u.prs = s.prs
        ∧ (s.cli.mode = .active → ∃ x, u.cli.sending = some x
          ∧ x.frame.head = BitVec.ofNat 4 (headCode .releasing) ∧ x.frame.age = 0))
    ∧ (d = .denied → s.prs.canJoin p = true →
      ∃ u, unthreads u ∧ u.prs = s.prs.join v.now p (recordWord .held e.zone) false
        ∧ u.jp.flags = withFlag (withFlag flags flagPartDone) flagPartHeld ∧ u.ps.deferred = s.ps.deferred)
    ∧ (d = .denied → s.prs.canJoin p = false → waits (updateTo .held p s) .unthread s.tu)
    ∧ (d = .expired → s.ps.phase ≠ .release → s.prs.canJoin p = true →
      ∃ u, unthreads u ∧ u.prs = s.prs.join v.now p (recordWord .tabbed e.zone) false
        ∧ u.jp.flags = withFlag flags flagPartDone ∧ u.ps.deferred = s.ps.deferred ++ [(p, 1)])
    ∧ (d = .expired → s.ps.phase ≠ .release → s.prs.canJoin p = false →
      waits { updateTo .tabbed p s with defer := true } .unthread s.tu)
    ∧ (d = .expired → s.ps.phase = .release → n < s.cfg.releaseAttempts →
      ∃ u, unthreads u ∧ u.prs = s.prs ∧ u.jp = { s.jp with flags := flags }
        ∧ u.ps.deferred = s.ps.deferred ++ [(p, n)])
    ∧ (d = .expired → s.ps.phase = .release → s.cfg.releaseAttempts ≤ n → s.prs.canJoin p = true →
      ∃ u, unthreads u ∧ u.prs = s.prs.join v.now p (recordWord .held e.zone) false
        ∧ u.jp.flags = withFlag (withFlag flags flagPartDone) flagPartHeld ∧ u.ps.deferred = s.ps.deferred)
    ∧ (d = .expired → s.ps.phase = .release → s.cfg.releaseAttempts ≤ n → s.prs.canJoin p = false →
      waits (updateTo .held p s) .unthreadRunning (unthreadingSince v.now s.tu))

/-- A frame sent whole whose intent has stood since it was formed is an announcement: the age carried becomes the last
announced, the first announcement's time is kept, and the age to send grows by one up to 15; one whose live mark is
clear announces nothing (the model's inference, log 30). A read-back mismatch is a collision and no announcement. The
instant is the model's clock (log 4), and the stuck timer stands as the rows show it (log 23). -/
def Obligations.FrameSentOrCut : Prop :=
  ∀ (x : Sending) (s : State), s.cli.sending = some x →
    let sent (t : Nat) : CellLine :=
      { s.cli with sending := none, stuckTimer := none, releasedAt := some (max s.now t) }
    (∀ t, x.live = true → exec (.frameSent t) s = .next { s with
      now := max s.now t
      cli := sent t
      pva := { s.pva with intent := { s.pva.intent with
        lastAge := some x.frame.age.toNat
        firstAt := if s.pva.intent.lastAge = none then some (max s.now t) else s.pva.intent.firstAt
        ageToSend := min 15 (x.frame.age.toNat + 1) } } })
    ∧ (∀ t, x.live = false → exec (.frameSent t) s = .next { s with
      now := max s.now t, cli := sent t })
    ∧ exec .readbackMismatch s = .next { s with cli := { s.cli with
      mode := .backoff, collision := min 65535 (s.cli.collision + 1), sending := none
      stuckTimer := some (s.cli.stuckTimer.getD s.now), releasedAt := none } }

/-- A burst received: one of bad form counts a CRC error; a frame of a station not below CellSize counts as stray; one
of the own station sets DUP_STATION and counts; one in which the own transmitter had a part, or that set LINE_STUCK,
counts nowhere. Beside that each moves the clock to its end (log 4) and shows the pair released (log 23), and nothing
else changes. A burst is judged by the line mode at its end, whatever the mode at its beginning (DESIGN CHOICE, log
43). -/
def Obligations.BurstsJudged : Prop :=
  ∀ (t : Nat) (b : Burst) (s : State), (s.cli.mode = .listen ∨ s.cli.mode = .active
      ∨ s.cli.mode = .backoff ∨ s.cli.mode = .stuck ∨ s.cli.mode = .noSlot) → s.cli.sending = none →
    let f := frameOfBits (Burst.bits b)
    let n := max s.now t
    let c : CellLine := { s.cli with stuckTimer := none, releasedAt := some n }
    (Burst.overStuck b = true ↔ 800 < b.halves.length)
    ∧ ((b.ownDrove = true ∨ Burst.overStuck b = true) →
      exec (.frameReceived t b) s = .next { s with now := n, cli := c })
    ∧ (b.ownDrove = false → Burst.overStuck b = false →
      (Burst.goodForm b = false →
        exec (.frameReceived t b) s
          = .next { s with now := n, cli := { c with crc := min 65535 (s.cli.crc + 1) } })
      ∧ (Burst.goodForm b = true → s.cfg.cellSize ≤ f.station.toNat →
        exec (.frameReceived t b) s
          = .next { s with now := n, cli := { c with stray := min 65535 (s.cli.stray + 1) } })
      ∧ (Burst.goodForm b = true → f.station.toNat < s.cfg.cellSize → f.station.toNat = s.cli.station →
        exec (.frameReceived t b) s = .next { s with
          now := n, cli := { c with dup := min 65535 (s.cli.dup + 1) }, jp := flagged flagDupStation s.jp }))

/-- A valid frame from station p updates its entry, makes it FRESH, clears the quiet count and re-aligns the slot
timer: the next own slot begins k slots after slot p began, 36.5 µs before the frame's end, where k = (s − p) mod
CellSize, put off by whole rounds until it is a slot or more after the last. In NO_SLOT the frame is taken too and the
slot timer is left as it is; during LISTEN one own slot is left to listen to (the model's count, log 35). The line's
mode, counters and sending stand, and the pair is shown released, but where the station has just begun to send (log
23). Its release count: a first hearing and a plate change to match set the cumulative releases to it with none
attributed; a step of 1 to 127 of a matching peer adds to them, and with a zone announced adds one to that zone's
tally and to the attributed, where these are fewer; a step of 128 and more counts an error; a foreign peer's count is
kept current and no more. A peer that turns foreign, or is first heard so, sets PLATE_FOREIGN. One that ends at the
very instant at which the own slot arrived and the station began to send is taken too (R155, log 14). The instant is
the model's clock (log 4); the model's choices are that the mode at the frame's end decides whether it is received
(log 43) and that a head code of 10 to 15 is kept as received (log 27). -/
def Obligations.ValidFrameTaken : Prop :=
  ∀ (t : Nat) (b : Burst) (s : State), (s.cli.mode = .listen ∨ s.cli.mode = .active ∨ s.cli.mode = .backoff
      ∨ s.cli.mode = .stuck ∨ s.cli.mode = .noSlot) →
    b.ownDrove = false → (s.cli.sending = none ∨ s.cli.lastSlot = some (max s.now t)) →
    Burst.goodForm b = true →
    let f := frameOfBits (Burst.bits b)
    let k := (s.cli.station + s.cfg.cellSize - f.station.toNat) % s.cfg.cellSize
    let target := max s.now t + k * 128 - 73
    f.station.toNat < s.cfg.cellSize → f.station.toNat ≠ s.cli.station →
    Memory.wf Peer.never s.pva.peers = true →
    ∃ u, exec (.frameReceived t b) s = .next u
      ∧ (u.pva.peer f.station.toNat).live = .fresh ∧ (u.pva.peer f.station.toNat).missed = 0
      ∧ (u.pva.peer f.station.toNat).head = f.head ∧ (u.pva.peer f.station.toNat).zone = f.zone
      ∧ (u.pva.peer f.station.toNat).age = f.age ∧ (u.pva.peer f.station.toNat).last = f.count
      ∧ ((u.pva.peer f.station.toNat).isForeign = true ↔ f.plate ≠ s.prs.announced)
      ∧ (∀ q, q ≠ f.station.toNat → u.pva.peer q = s.pva.peer q)
      ∧ (let e := s.pva.peer f.station.toNat
        let e' := u.pva.peer f.station.toNat
        let first := e.live = .never ∨ e.live = .absent
        let step := (f.count.toNat + 256 - e.last.toNat) % 256
        let counts (cumulative attributed errors : Nat) (tally : Memory Nat) : Prop :=
          e'.cumulative = cumulative ∧ e'.attributed = attributed ∧ u.pva.errors = errors ∧ u.pva.tally = tally
        (f.plate ≠ s.prs.announced → counts e.cumulative e.attributed s.pva.errors s.pva.tally)
        ∧ (f.plate = s.prs.announced → (first ∨ e.isForeign = true) →
          counts f.count.toNat 0 s.pva.errors s.pva.tally)
        ∧ (f.plate = s.prs.announced → ¬ first → e.isForeign = false →
          (step ≤ 127 → (step = 0 ∨ f.lastValid = false) →
            counts (min 65535 (e.cumulative + step)) e.attributed s.pva.errors s.pva.tally)
          ∧ (1 ≤ step → step ≤ 127 → f.lastValid = true →
            counts (min 65535 (e.cumulative + step))
              (if e.attributed < min 65535 (e.cumulative + step) then e.attributed + 1 else e.attributed) s.pva.errors
              (Memory.write 0 f.lastZone.toNat (min 255 (Memory.read 0 s.pva.tally f.lastZone.toNat + 1)) s.pva.tally))
          ∧ (128 ≤ step → counts e.cumulative e.attributed (min 65535 (s.pva.errors + 1)) s.pva.tally))
        ∧ ((f.plate ≠ s.prs.announced ∧ (first ∨ e.isForeign = false)) → u.jp = flagged flagPlateForeign s.jp)
        ∧ (¬ (f.plate ≠ s.prs.announced ∧ (first ∨ e.isForeign = false)) → u.jp = s.jp))
      ∧ u.pva.intent = s.pva.intent ∧ u.ps = s.ps ∧ u.pe = s.pe ∧ u.gc = s.gc ∧ u.tu = s.tu ∧ u.prs = s.prs
      ∧ u.cli = { s.cli with
          stuckTimer := if s.cli.sending.isSome then s.cli.stuckTimer else none
          releasedAt := if s.cli.sending.isSome then s.cli.releasedAt else some (max s.now t)
          quiet := 0, heard := true, listenLeft := if s.cli.mode = .listen then 1 else s.cli.listenLeft
          nextSlot := u.cli.nextSlot }
      ∧ (s.cli.mode = .noSlot → u.cli.nextSlot = s.cli.nextSlot)
      ∧ (s.cli.mode ≠ .noSlot → s.cli.station < s.cfg.cellSize →
        ∃ n, u.cli.nextSlot = some n ∧ 1 ≤ k ∧ (s.cli.lastSlot = none → n = target)
          ∧ ∀ l, s.cli.lastSlot = some l → l + 128 ≤ n ∧ ∃ j, n = target + j * (s.cfg.cellSize * 128)
            ∧ ∀ i, i < j → target + i * (s.cfg.cellSize * 128) < l + 128)

/-- The frame on the line: the preamble 10010110, the eight fields in their order, each most significant bit first, and
the check code. The check code: a register preset to all ones takes each bit in turn, shifting left with
0x1021 on feedback; it is sent after the 49 bits, most significant bit first, and a receiver compares its own with the
16 bits that follow. The coding: a 1 drives the pair positive then negative, a 0 negative then positive, and a bit is
read from its middle transition, whose lack is a violation. A frame formed by a station and received as driven is of
good form and carries its fields back. The model's own: that a burst is a run of whole half-bits (log 24), and that a
bit being driven is found by the ticks of its clock since the own slot (pairDrive, log 4). -/
def Obligations.FrameRoundTrip : Prop :=
  (checkCode [] = 0xFFFF#16
    ∧ ∀ (bs : List Bool) (b : Bool),
      checkCode (bs ++ [b]) = (checkCode bs <<< 1) ^^^ (if Bool.xor b (checkCode bs).msb then 0x1021#16 else 0#16))
  ∧ (∀ (first second : Bool) (rest : List Bool),
      manchester [] = [] ∧ (∀ b bs, manchester (b :: bs) = b :: (!b) :: manchester bs)
      ∧ decodeHalves [] = [] ∧ decodeHalves [first] = [none]
      ∧ decodeHalves (first :: second :: rest)
          = (if first = second then none else some first) :: decodeHalves rest)
  ∧ (∀ b : Burst, (Burst.violation b = true ↔ none ∈ decodeHalves b.halves)
      ∧ (Burst.goodForm b = true ↔
        (Burst.bits b).take 8 = Config.preamble ∧ Burst.violation b = false ∧ (Burst.bits b).length = 73
          ∧ msbFirst (checkCode (((Burst.bits b).drop 8).take 49)) = (Burst.bits b).drop 57))
  ∧ (∀ (n : Nat) (w : BitVec n), (msbFirst w).length = n ∧ ∀ i, i < n → (msbFirst w).getD i false = w.getMsbD i)
  ∧ Config.preamble = [true, false, false, true, false, true, true, false]
  ∧ (∀ f : Frame, f.body = msbFirst f.station ++ msbFirst f.head ++ msbFirst f.zone ++ msbFirst f.age
        ++ msbFirst f.plate ++ msbFirst f.count ++ msbFirst f.lastZone ++ [f.lastValid]
    ∧ f.body.length = 49 ∧ f.bits = Config.preamble ++ f.body ++ msbFirst (checkCode f.body)
    ∧ f.bits.length = 73 ∧ frameOfBits f.bits = f
    ∧ Burst.goodForm { halves := manchester f.bits, ownDrove := false } = true
    ∧ Burst.bits { halves := manchester f.bits, ownDrove := false } = f.bits)
  ∧ ∀ (x : Sending) (l i : Nat) (s : State), s.cli.sending = some x → s.cli.lastSlot = some l → s.now = l + i →
    i < 73 → pairDrive s = some ((manchester x.frame.bits).getD (2 * i) false,
      (manchester x.frame.bits).getD (2 * i + 1) false)

/-- LINE_STUCK_TIMEOUT, due once the pair has been driven for more than 200 µs, 400 ticks of the model's clock (log
4), sets LINE_STUCK and enters STUCK from LISTEN, ACTIVE and BACKOFF; in NO_SLOT it sets the flag and keeps the mode;
in SOLO it does nothing, and, by the model's DESIGN CHOICE (log 40), nothing in OFF. That it sets the flag again in
STUCK is the model's inference (log 23). STUCK_CLEAR begins the re-listening, and is due once the pair has been
released for a whole round. The instants from which both are due stand as the rows show them (log 23). -/
def Obligations.StuckLine : Prop :=
  ∀ s : State,
    (s.cli.sending = none → (s.cli.mode = .listen ∨ s.cli.mode = .active ∨ s.cli.mode = .backoff) →
      ∃ t, exec .lineStuckTimeout s = .next t ∧ t.cli.mode = .stuck ∧ t.jp = flagged flagLineStuck s.jp
        ∧ t.cli.nextSlot = s.cli.nextSlot ∧ t.cli.releasedAt = none ∧ t.pva = s.pva ∧ t.ps = s.ps)
    ∧ (s.cli.sending = none → (s.cli.mode = .noSlot ∨ s.cli.mode = .stuck) →
      ∃ t, exec .lineStuckTimeout s = .next t ∧ t.cli.mode = s.cli.mode ∧ t.jp = flagged flagLineStuck s.jp
        ∧ t.cli.releasedAt = none)
    ∧ ((s.cli.mode = .solo ∨ s.cli.mode = .off) → exec .lineStuckTimeout s = .next s)
    ∧ (due .lineStuckTimeout s = true ↔ ∃ d, s.cli.stuckTimer = some d ∧ d + 400 < s.now)
    ∧ (s.cli.mode = .stuck → exec .stuckClear s = .next { s with
        cli := { s.cli with mode := .listen, listenLeft := 2, stuckTimer := none } })
    ∧ (s.cli.mode = .stuck → (due .stuckClear s = true ↔
        ∃ r, s.cli.releasedAt = some r ∧ r + s.cfg.cellSize * 128 ≤ s.now))

/-! ## The record store -/

/-- The erase ends in the write of the entry's value as it stands; the end of the write leaves the word as read back,
and rewrites a replaced value, retries a first mismatch, or, read back right or wrong a second time, removes the
entry, the second mismatch setting RECORD_FAULT and the marker of a job under way. At the removal the next entry's
update begins, the waiting ARM or record wait has its update joined at the freed place (log 7), and a NEW_PLATE whose
updates have all joined ends when no marked entry is left. That a value replaced during its write is rewritten
whatever is read back, with a fresh retry, is read so by the model where both apply (log 22). -/
def Obligations.UpdateStages : Prop :=
  ∀ (e : QueueEntry) (rest : List QueueEntry) (s : State), s.prs.queue = e :: rest →
    (s.prs.stage = .erase →
      exec .eraseEnd s = .next { s with
        prs := { s.prs with stage := .write, writing := e.value, timer := some s.now } })
    ∧ ∀ rb : Half, s.prs.stage = .write →
      let nv := Memory.write 0#16 e.word rb s.prs.nv
      (e.value ≠ s.prs.writing →
        exec (.writeEnd rb) s = .next { s with prs := { s.prs with
          nv := Memory.write 0#16 e.word 0#16 nv
          stage := .erase, writing := e.value, retried := false, timer := some s.now } })
      ∧ (e.value = s.prs.writing → rb ≠ s.prs.writing → s.prs.retried = false →
        exec (.writeEnd rb) s = .next { s with prs := { s.prs with
          nv := Memory.write 0#16 e.word 0#16 nv
          stage := .erase, retried := true, timer := some s.now } })
      ∧ (e.value = s.prs.writing → (rb = s.prs.writing ∨ s.prs.retried = true) →
        let left : RecordStore := match rest with
          | [] => { s.prs with nv := nv, queue := [], stage := .none, retried := false, timer := none }
          | next :: _ => { s.prs with
              nv := Memory.write 0#16 next.word 0#16 nv, queue := rest, stage := .erase, writing := next.value
              retried := false, timer := some s.now }
        let t : State :=
          if rb = s.prs.writing then { s with prs := left }
          else { s with
            prs := left, jp := flagged flagRecordFault s.jp
            ps := { s.ps with marker := s.ps.marker || decide (s.ps.job = .running ∨ s.ps.job = .halted) } }
        let unserved := (∀ p, s.js.arm ≠ .waiting p false) ∧ ∀ u k, s.ps.activity ≠ .recordWait u k false
        (unserved → s.prs.feed = none → exec (.writeEnd rb) s = .next t)
        ∧ (∀ p, s.js.arm = .waiting p false → s.prs.feed = none →
          exec (.writeEnd rb) s = .next { t with
            js := { s.js with arm := .waiting p true }
            prs := left.join s.now p (recordWord .abandoned (s.js.part p).zone) false })
        ∧ (∀ u k, (∀ p, s.js.arm ≠ .waiting p false) → s.ps.activity = .recordWait u k false → s.prs.feed = none →
          exec (.writeEnd rb) s = .next { noted u t with
            ps := { (noted u t).ps with activity := .recordWait u k true } })
        ∧ (unserved → s.prs.feed = some 65 → (∃ x ∈ rest, x.mark = true) → exec (.writeEnd rb) s = .next t)
        ∧ (unserved → s.prs.feed = some 65 → (∀ x ∈ rest, x.mark = false) →
          exec (.writeEnd rb) s = .next { t with prs := { left with feed := none } }))

/-- RECORD_WAIT_END: an update that the write completion has not placed joins first if it can, and else nothing
happens. In RUNNING the sequence goes on: the rough pass is loaded, a new threading at the start hole is waited for,
the unthread is requested, or is seen running, or, the part being finished, the walk goes on. In HALTED what follows
waits for RESUME, but for the walk, which stands at the boundary, and an unthread already running. That the update
joins at the write completion and its sequence goes on in this row afterwards is the model's inference (log 7), and so
are the unthread running beside its update (log 11) and what HALTED finds of it. That in HALTED the unthread waits for
RESUME also where the wait is that of a SKIP_PART made in HALTED is its choice (log 9), and so are the current part at
the boundary (log 44) and the head in the record wait of a failed budget pre-check (log 45). -/
def Obligations.RecordWaitEnds : Prop :=
  ∀ (u : PartUpdate) (k : Follow) (joined : Bool) (s : State), s.ps.activity = .recordWait u k joined →
    let b : State := if joined then s else noted u s
    (joined = false → s.prs.canJoin u.part = false → exec .recordWaitEnd s = .next s)
    ∧ ((joined = true ∨ s.prs.canJoin u.part = true) →
      (s.ps.job = .halted → (k = .loadRough ∨ k = .threadAgain ∨ k = .unthread) →
        exec .recordWaitEnd s = .next { b with ps := { b.ps with activity := .recordJoined k } })
      ∧ (∀ p, s.ps.job = .running → k = .loadRough → s.ps.current = some p →
        ∃ t, exec .recordWaitEnd s = .next t ∧ RoughPassRuns p s t ∧ t.prs = b.prs)
      ∧ (s.ps.job = .running → k = .threadAgain →
        exec .recordWaitEnd s = .next { b with
          ps := { b.ps with head := .waitThread, activity := .waitThread .startHoleAgain }
          pva := { b.pva with intent := newIntent .thread s.now } })
      ∧ (s.ps.job = .running → k = .unthread → s.tu.stage = .threaded →
        exec .recordWaitEnd s = .next { b with
          ps := { b.ps with head := .unthreading, activity := .unthreading }
          tu := unthreadingSince s.now s.tu })
      ∧ (s.ps.job = .running → k = .unthread → s.tu.stage = .idle → GoesOn (exec .recordWaitEnd s) b)
      ∧ ((s.ps.job = .running ∨ s.ps.job = .halted) → k = .nextPart → GoesOn (exec .recordWaitEnd s) b)
      ∧ ((s.ps.job = .running ∨ s.ps.job = .halted) → k = .unthreadRunning →
        exec .recordWaitEnd s = .next { b with ps := { b.ps with
          head := if s.ps.job = .running then .unthreading else s.ps.head, activity := .unthreading } }))

/-! ## Invariants -/

/-- Every bound holds right after reset. -/
def Obligations.BoundsAtReset : Prop :=
  QueueOk State.reset ∧ GapOk State.reset ∧ PositionOk State.reset ∧ ListsOk State.reset ∧ PeersOk State.reset
    ∧ CountersOk State.reset ∧ StoresOk State.reset

/-- Every step keeps the pending record queue at 8 entries at most, no two for one word. -/
def Obligations.QueueKept : Prop := ∀ s t : State, QueueOk s → step s = .next t → QueueOk t

/-- Every step keeps the accumulator within 0 to 8184 and both coordinates within the coordinate range. -/
def Obligations.GapAndPositionKept : Prop :=
  ∀ s t : State, GapOk s → PositionOk s → step s = .next t → GapOk t ∧ PositionOk t

/-- Every step keeps log and stack within 256 entries together, and the stack empty outside an episode. -/
def Obligations.ListsKept : Prop := ∀ s t : State, ListsOk s → step s = .next t → ListsOk t

/-- Every step keeps each peer's attributed releases at or below its cumulative ones, and the counters in range. -/
def Obligations.PeersAndCountersKept : Prop :=
  ∀ s t : State, PeersOk s → CountersOk s → step s = .next t → PeersOk t ∧ CountersOk t

/-- Every step keeps every addressed store in its canonical form. -/
def Obligations.StoresKept : Prop := ∀ s t : State, StoresOk s → step s = .next t → StoresOk t
end

