-- ==== Sys2Proof/Laws/Memory.lean ====
section
/-! SUPPORT. Reading and writing an addressed store: what a read gives after a write, and that every write keeps
the canonical form. -/

namespace Sys2Proof.Machine

variable {α : Type} [DecidableEq α] {d : α}

omit [DecidableEq α] in
@[simp] theorem memory_read_nil (k : Nat) : Memory.read d ([] : Memory α) k = d := rfl

/-- No place below the first can hold a value. -/
theorem memory_read_below {m : Memory α} {lo k : Nat} (h : Memory.wfFrom d lo m = true) (hk : k < lo) :
    Memory.read d m k = d := by
  induction m generalizing lo with
  | nil => rfl
  | cons e m ih =>
    obtain ⟨a, x⟩ := e
    simp only [Memory.wfFrom, Bool.and_eq_true, decide_eq_true_eq] at h
    obtain ⟨⟨h1, h2⟩, h3⟩ := h
    rw [Memory.read, if_neg (by omega)]
    exact ih h3 (by omega)

/-- A write leaves every other place as it was. -/
theorem memory_read_write_other (m : Memory α) {k j : Nat} (v : α) (h : j ≠ k) :
    Memory.read d (Memory.write d k v m) j = Memory.read d m j := by
  induction m with
  | nil => unfold Memory.write; split <;> simp [Memory.read, h]
  | cons e m ih =>
    obtain ⟨a, x⟩ := e
    unfold Memory.write
    split_ifs <;> simp_all [Memory.read]

/-- A place reads what was written to it. -/
theorem memory_read_write_same_from {m : Memory α} {lo : Nat} (h : Memory.wfFrom d lo m = true) (k : Nat) (v : α) :
    Memory.read d (Memory.write d k v m) k = v := by
  induction m generalizing lo with
  | nil => unfold Memory.write; split <;> simp_all [Memory.read]
  | cons e m ih =>
    obtain ⟨a, x⟩ := e
    have h' := h
    simp only [Memory.wfFrom, Bool.and_eq_true, decide_eq_true_eq] at h'
    obtain ⟨⟨h1, h2⟩, h3⟩ := h'
    unfold Memory.write
    by_cases hka : k < a
    · rw [if_pos hka]
      by_cases hv : v = d
      · rw [if_pos hv, Memory.read, if_neg (by omega), hv]
        exact memory_read_below h3 (by omega)
      · rw [if_neg hv, Memory.read, if_pos rfl]
    · rw [if_neg hka]
      by_cases hk : k = a
      · rw [if_pos hk]
        by_cases hv : v = d
        · rw [if_pos hv, hv]; exact memory_read_below h3 (by omega)
        · rw [if_neg hv, Memory.read, if_pos rfl]
      · rw [if_neg hk, Memory.read, if_neg hk]; exact ih h3

theorem memory_read_write_same {m : Memory α} (h : Memory.wf d m = true) (k : Nat) (v : α) :
    Memory.read d (Memory.write d k v m) k = v := memory_read_write_same_from h k v

theorem memory_wfFrom_mono {m : Memory α} {lo lo' : Nat} (h : Memory.wfFrom d lo m = true) (hl : lo' ≤ lo) :
    Memory.wfFrom d lo' m = true := by
  cases m with
  | nil => rfl
  | cons e m =>
    obtain ⟨a, x⟩ := e
    simp only [Memory.wfFrom, Bool.and_eq_true, decide_eq_true_eq] at h ⊢
    exact ⟨⟨by omega, h.1.2⟩, h.2⟩

theorem memory_wfFrom_write {m : Memory α} {lo : Nat} (h : Memory.wfFrom d lo m = true) {k : Nat} (hk : lo ≤ k)
    (v : α) : Memory.wfFrom d lo (Memory.write d k v m) = true := by
  induction m generalizing lo with
  | nil =>
    unfold Memory.write
    split_ifs with hv
    · rfl
    · simp [Memory.wfFrom, hv, hk]
  | cons e m ih =>
    obtain ⟨a, x⟩ := e
    have h' := h
    simp only [Memory.wfFrom, Bool.and_eq_true, decide_eq_true_eq] at h'
    obtain ⟨⟨h1, h2⟩, h3⟩ := h'
    unfold Memory.write
    split_ifs with hka hv hkeq hv
    · exact h
    · simp only [Memory.wfFrom, Bool.and_eq_true, decide_eq_true_eq]
      exact ⟨⟨hk, hv⟩, ⟨by omega, h2⟩, h3⟩
    · exact memory_wfFrom_mono h3 (by omega)
    · subst hkeq
      simp only [Memory.wfFrom, Bool.and_eq_true, decide_eq_true_eq]
      exact ⟨⟨hk, hv⟩, h3⟩
    · simp only [Memory.wfFrom, Bool.and_eq_true, decide_eq_true_eq]
      exact ⟨⟨h1, h2⟩, ih h3 (by omega)⟩

/-- Every write keeps the canonical form. -/
theorem memory_wf_write {m : Memory α} (h : Memory.wf d m = true) (k : Nat) (v : α) :
    Memory.wf d (Memory.write d k v m) = true := memory_wfFrom_write h (Nat.zero_le k) v

@[simp] theorem memory_wf_nil : Memory.wf d ([] : Memory α) = true := rfl

/-- A change of the values alone that makes none read as an unlisted place keeps the canonical form. -/
theorem memory_wfFrom_map {m : Memory α} (f : α → α) (hf : ∀ x, x ≠ d → f x ≠ d) {lo : Nat}
    (h : Memory.wfFrom d lo m = true) : Memory.wfFrom d lo (m.map fun e => (e.1, f e.2)) = true := by
  induction m generalizing lo with
  | nil => rfl
  | cons e m ih =>
    obtain ⟨a, x⟩ := e
    simp only [Memory.wfFrom, Bool.and_eq_true, decide_eq_true_eq, List.map_cons] at h ⊢
    exact ⟨⟨h.1.1, hf x h.1.2⟩, ih h.2⟩

theorem memory_wf_map {m : Memory α} (f : α → α) (hf : ∀ x, x ≠ d → f x ≠ d) (h : Memory.wf d m = true) :
    Memory.wf d (m.map fun e => (e.1, f e.2)) = true := memory_wfFrom_map f hf h

/-- Every listed value after a write was listed before or is the written one. -/
theorem memory_mem_write {m : Memory α} {k : Nat} {v : α} {e : Nat × α} (h : e ∈ Memory.write d k v m) :
    e ∈ m ∨ e = (k, v) := by
  induction m with
  | nil =>
    unfold Memory.write at h
    split_ifs at h <;> simp_all
  | cons a m ih =>
    obtain ⟨a, x⟩ := a
    unfold Memory.write at h
    split_ifs at h <;> simp_all <;> tauto

omit [DecidableEq α] in
/-- A read gives a listed value or the default. -/
theorem memory_read_cases (m : Memory α) (k : Nat) :
    Memory.read d m k = d ∨ (k, Memory.read d m k) ∈ m := by
  induction m with
  | nil => exact Or.inl rfl
  | cons a m ih =>
    obtain ⟨a, x⟩ := a
    unfold Memory.read
    split_ifs with h
    · subst h; exact Or.inr (List.mem_cons_self ..)
    · rcases ih with h1 | h1
      · exact Or.inl h1
      · exact Or.inr (List.mem_cons_of_mem _ h1)

end Sys2Proof.Machine
end

