-- ==== Sys2Proof/Laws/State.lean ====
section
/-! SUPPORT. What each update of one block does to each field of the state. -/

namespace Sys2Proof.Machine.State

@[simp] theorem setPending_pending (s : State) (q : List Instr) : (s.setPending q).pending = q := rfl
@[simp] theorem setPending_now (s : State) (q : List Instr) : (s.setPending q).now = s.now := rfl
@[simp] theorem setPending_power (s : State) (q : List Instr) : (s.setPending q).power = s.power := rfl
@[simp] theorem setPending_cfg (s : State) (q : List Instr) : (s.setPending q).cfg = s.cfg := rfl
@[simp] theorem setPending_js (s : State) (q : List Instr) : (s.setPending q).js = s.js := rfl
@[simp] theorem setPending_pe (s : State) (q : List Instr) : (s.setPending q).pe = s.pe := rfl
@[simp] theorem setPending_gc (s : State) (q : List Instr) : (s.setPending q).gc = s.gc := rfl
@[simp] theorem setPending_eg (s : State) (q : List Instr) : (s.setPending q).eg = s.eg := rfl
@[simp] theorem setPending_tu (s : State) (q : List Instr) : (s.setPending q).tu = s.tu := rfl
@[simp] theorem setPending_ps (s : State) (q : List Instr) : (s.setPending q).ps = s.ps := rfl
@[simp] theorem setPending_cli (s : State) (q : List Instr) : (s.setPending q).cli = s.cli := rfl
@[simp] theorem setPending_pva (s : State) (q : List Instr) : (s.setPending q).pva = s.pva := rfl
@[simp] theorem setPending_prs (s : State) (q : List Instr) : (s.setPending q).prs = s.prs := rfl
@[simp] theorem setPending_jp (s : State) (q : List Instr) : (s.setPending q).jp = s.jp := rfl
@[simp] theorem setPending_setPending (s : State) (q q' : List Instr) : (s.setPending q).setPending q' = s.setPending q' := rfl

@[simp] theorem setPower_pending (s : State) (p : Power) : (s.setPower p).pending = s.pending := rfl
@[simp] theorem setPower_now (s : State) (p : Power) : (s.setPower p).now = s.now := rfl
@[simp] theorem setPower_power (s : State) (p : Power) : (s.setPower p).power = p := rfl
@[simp] theorem setPower_cfg (s : State) (p : Power) : (s.setPower p).cfg = s.cfg := rfl
@[simp] theorem setPower_js (s : State) (p : Power) : (s.setPower p).js = s.js := rfl
@[simp] theorem setPower_pe (s : State) (p : Power) : (s.setPower p).pe = s.pe := rfl
@[simp] theorem setPower_gc (s : State) (p : Power) : (s.setPower p).gc = s.gc := rfl
@[simp] theorem setPower_eg (s : State) (p : Power) : (s.setPower p).eg = s.eg := rfl
@[simp] theorem setPower_tu (s : State) (p : Power) : (s.setPower p).tu = s.tu := rfl
@[simp] theorem setPower_ps (s : State) (p : Power) : (s.setPower p).ps = s.ps := rfl
@[simp] theorem setPower_cli (s : State) (p : Power) : (s.setPower p).cli = s.cli := rfl
@[simp] theorem setPower_pva (s : State) (p : Power) : (s.setPower p).pva = s.pva := rfl
@[simp] theorem setPower_prs (s : State) (p : Power) : (s.setPower p).prs = s.prs := rfl
@[simp] theorem setPower_jp (s : State) (p : Power) : (s.setPower p).jp = s.jp := rfl
@[simp] theorem setPower_setPower (s : State) (p p' : Power) : (s.setPower p).setPower p' = s.setPower p' := rfl

@[simp] theorem setCfg_pending (s : State) (c : Params) : (s.setCfg c).pending = s.pending := rfl
@[simp] theorem setCfg_now (s : State) (c : Params) : (s.setCfg c).now = s.now := rfl
@[simp] theorem setCfg_power (s : State) (c : Params) : (s.setCfg c).power = s.power := rfl
@[simp] theorem setCfg_cfg (s : State) (c : Params) : (s.setCfg c).cfg = c := rfl
@[simp] theorem setCfg_js (s : State) (c : Params) : (s.setCfg c).js = s.js := rfl
@[simp] theorem setCfg_pe (s : State) (c : Params) : (s.setCfg c).pe = s.pe := rfl
@[simp] theorem setCfg_gc (s : State) (c : Params) : (s.setCfg c).gc = s.gc := rfl
@[simp] theorem setCfg_eg (s : State) (c : Params) : (s.setCfg c).eg = s.eg := rfl
@[simp] theorem setCfg_tu (s : State) (c : Params) : (s.setCfg c).tu = s.tu := rfl
@[simp] theorem setCfg_ps (s : State) (c : Params) : (s.setCfg c).ps = s.ps := rfl
@[simp] theorem setCfg_cli (s : State) (c : Params) : (s.setCfg c).cli = s.cli := rfl
@[simp] theorem setCfg_pva (s : State) (c : Params) : (s.setCfg c).pva = s.pva := rfl
@[simp] theorem setCfg_prs (s : State) (c : Params) : (s.setCfg c).prs = s.prs := rfl
@[simp] theorem setCfg_jp (s : State) (c : Params) : (s.setCfg c).jp = s.jp := rfl
@[simp] theorem setCfg_setCfg (s : State) (c c' : Params) : (s.setCfg c).setCfg c' = s.setCfg c' := rfl

@[simp] theorem setJs_pending (s : State) (b : JobStore) : (s.setJs b).pending = s.pending := rfl
@[simp] theorem setJs_now (s : State) (b : JobStore) : (s.setJs b).now = s.now := rfl
@[simp] theorem setJs_power (s : State) (b : JobStore) : (s.setJs b).power = s.power := rfl
@[simp] theorem setJs_cfg (s : State) (b : JobStore) : (s.setJs b).cfg = s.cfg := rfl
@[simp] theorem setJs_js (s : State) (b : JobStore) : (s.setJs b).js = b := rfl
@[simp] theorem setJs_pe (s : State) (b : JobStore) : (s.setJs b).pe = s.pe := rfl
@[simp] theorem setJs_gc (s : State) (b : JobStore) : (s.setJs b).gc = s.gc := rfl
@[simp] theorem setJs_eg (s : State) (b : JobStore) : (s.setJs b).eg = s.eg := rfl
@[simp] theorem setJs_tu (s : State) (b : JobStore) : (s.setJs b).tu = s.tu := rfl
@[simp] theorem setJs_ps (s : State) (b : JobStore) : (s.setJs b).ps = s.ps := rfl
@[simp] theorem setJs_cli (s : State) (b : JobStore) : (s.setJs b).cli = s.cli := rfl
@[simp] theorem setJs_pva (s : State) (b : JobStore) : (s.setJs b).pva = s.pva := rfl
@[simp] theorem setJs_prs (s : State) (b : JobStore) : (s.setJs b).prs = s.prs := rfl
@[simp] theorem setJs_jp (s : State) (b : JobStore) : (s.setJs b).jp = s.jp := rfl
@[simp] theorem setJs_setJs (s : State) (b b' : JobStore) : (s.setJs b).setJs b' = s.setJs b' := rfl

@[simp] theorem setPe_pending (s : State) (b : PathEngine) : (s.setPe b).pending = s.pending := rfl
@[simp] theorem setPe_now (s : State) (b : PathEngine) : (s.setPe b).now = s.now := rfl
@[simp] theorem setPe_power (s : State) (b : PathEngine) : (s.setPe b).power = s.power := rfl
@[simp] theorem setPe_cfg (s : State) (b : PathEngine) : (s.setPe b).cfg = s.cfg := rfl
@[simp] theorem setPe_js (s : State) (b : PathEngine) : (s.setPe b).js = s.js := rfl
@[simp] theorem setPe_pe (s : State) (b : PathEngine) : (s.setPe b).pe = b := rfl
@[simp] theorem setPe_gc (s : State) (b : PathEngine) : (s.setPe b).gc = s.gc := rfl
@[simp] theorem setPe_eg (s : State) (b : PathEngine) : (s.setPe b).eg = s.eg := rfl
@[simp] theorem setPe_tu (s : State) (b : PathEngine) : (s.setPe b).tu = s.tu := rfl
@[simp] theorem setPe_ps (s : State) (b : PathEngine) : (s.setPe b).ps = s.ps := rfl
@[simp] theorem setPe_cli (s : State) (b : PathEngine) : (s.setPe b).cli = s.cli := rfl
@[simp] theorem setPe_pva (s : State) (b : PathEngine) : (s.setPe b).pva = s.pva := rfl
@[simp] theorem setPe_prs (s : State) (b : PathEngine) : (s.setPe b).prs = s.prs := rfl
@[simp] theorem setPe_jp (s : State) (b : PathEngine) : (s.setPe b).jp = s.jp := rfl
@[simp] theorem setPe_setPe (s : State) (b b' : PathEngine) : (s.setPe b).setPe b' = s.setPe b' := rfl

@[simp] theorem setGc_pending (s : State) (b : GapControl) : (s.setGc b).pending = s.pending := rfl
@[simp] theorem setGc_now (s : State) (b : GapControl) : (s.setGc b).now = s.now := rfl
@[simp] theorem setGc_power (s : State) (b : GapControl) : (s.setGc b).power = s.power := rfl
@[simp] theorem setGc_cfg (s : State) (b : GapControl) : (s.setGc b).cfg = s.cfg := rfl
@[simp] theorem setGc_js (s : State) (b : GapControl) : (s.setGc b).js = s.js := rfl
@[simp] theorem setGc_pe (s : State) (b : GapControl) : (s.setGc b).pe = s.pe := rfl
@[simp] theorem setGc_gc (s : State) (b : GapControl) : (s.setGc b).gc = b := rfl
@[simp] theorem setGc_eg (s : State) (b : GapControl) : (s.setGc b).eg = s.eg := rfl
@[simp] theorem setGc_tu (s : State) (b : GapControl) : (s.setGc b).tu = s.tu := rfl
@[simp] theorem setGc_ps (s : State) (b : GapControl) : (s.setGc b).ps = s.ps := rfl
@[simp] theorem setGc_cli (s : State) (b : GapControl) : (s.setGc b).cli = s.cli := rfl
@[simp] theorem setGc_pva (s : State) (b : GapControl) : (s.setGc b).pva = s.pva := rfl
@[simp] theorem setGc_prs (s : State) (b : GapControl) : (s.setGc b).prs = s.prs := rfl
@[simp] theorem setGc_jp (s : State) (b : GapControl) : (s.setGc b).jp = s.jp := rfl
@[simp] theorem setGc_setGc (s : State) (b b' : GapControl) : (s.setGc b).setGc b' = s.setGc b' := rfl

@[simp] theorem setEg_pending (s : State) (b : Energy) : (s.setEg b).pending = s.pending := rfl
@[simp] theorem setEg_now (s : State) (b : Energy) : (s.setEg b).now = s.now := rfl
@[simp] theorem setEg_power (s : State) (b : Energy) : (s.setEg b).power = s.power := rfl
@[simp] theorem setEg_cfg (s : State) (b : Energy) : (s.setEg b).cfg = s.cfg := rfl
@[simp] theorem setEg_js (s : State) (b : Energy) : (s.setEg b).js = s.js := rfl
@[simp] theorem setEg_pe (s : State) (b : Energy) : (s.setEg b).pe = s.pe := rfl
@[simp] theorem setEg_gc (s : State) (b : Energy) : (s.setEg b).gc = s.gc := rfl
@[simp] theorem setEg_eg (s : State) (b : Energy) : (s.setEg b).eg = b := rfl
@[simp] theorem setEg_tu (s : State) (b : Energy) : (s.setEg b).tu = s.tu := rfl
@[simp] theorem setEg_ps (s : State) (b : Energy) : (s.setEg b).ps = s.ps := rfl
@[simp] theorem setEg_cli (s : State) (b : Energy) : (s.setEg b).cli = s.cli := rfl
@[simp] theorem setEg_pva (s : State) (b : Energy) : (s.setEg b).pva = s.pva := rfl
@[simp] theorem setEg_prs (s : State) (b : Energy) : (s.setEg b).prs = s.prs := rfl
@[simp] theorem setEg_jp (s : State) (b : Energy) : (s.setEg b).jp = s.jp := rfl
@[simp] theorem setEg_setEg (s : State) (b b' : Energy) : (s.setEg b).setEg b' = s.setEg b' := rfl

@[simp] theorem setTu_pending (s : State) (b : ThreadUnit) : (s.setTu b).pending = s.pending := rfl
@[simp] theorem setTu_now (s : State) (b : ThreadUnit) : (s.setTu b).now = s.now := rfl
@[simp] theorem setTu_power (s : State) (b : ThreadUnit) : (s.setTu b).power = s.power := rfl
@[simp] theorem setTu_cfg (s : State) (b : ThreadUnit) : (s.setTu b).cfg = s.cfg := rfl
@[simp] theorem setTu_js (s : State) (b : ThreadUnit) : (s.setTu b).js = s.js := rfl
@[simp] theorem setTu_pe (s : State) (b : ThreadUnit) : (s.setTu b).pe = s.pe := rfl
@[simp] theorem setTu_gc (s : State) (b : ThreadUnit) : (s.setTu b).gc = s.gc := rfl
@[simp] theorem setTu_eg (s : State) (b : ThreadUnit) : (s.setTu b).eg = s.eg := rfl
@[simp] theorem setTu_tu (s : State) (b : ThreadUnit) : (s.setTu b).tu = b := rfl
@[simp] theorem setTu_ps (s : State) (b : ThreadUnit) : (s.setTu b).ps = s.ps := rfl
@[simp] theorem setTu_cli (s : State) (b : ThreadUnit) : (s.setTu b).cli = s.cli := rfl
@[simp] theorem setTu_pva (s : State) (b : ThreadUnit) : (s.setTu b).pva = s.pva := rfl
@[simp] theorem setTu_prs (s : State) (b : ThreadUnit) : (s.setTu b).prs = s.prs := rfl
@[simp] theorem setTu_jp (s : State) (b : ThreadUnit) : (s.setTu b).jp = s.jp := rfl
@[simp] theorem setTu_setTu (s : State) (b b' : ThreadUnit) : (s.setTu b).setTu b' = s.setTu b' := rfl

@[simp] theorem setPs_pending (s : State) (b : Sequencer) : (s.setPs b).pending = s.pending := rfl
@[simp] theorem setPs_now (s : State) (b : Sequencer) : (s.setPs b).now = s.now := rfl
@[simp] theorem setPs_power (s : State) (b : Sequencer) : (s.setPs b).power = s.power := rfl
@[simp] theorem setPs_cfg (s : State) (b : Sequencer) : (s.setPs b).cfg = s.cfg := rfl
@[simp] theorem setPs_js (s : State) (b : Sequencer) : (s.setPs b).js = s.js := rfl
@[simp] theorem setPs_pe (s : State) (b : Sequencer) : (s.setPs b).pe = s.pe := rfl
@[simp] theorem setPs_gc (s : State) (b : Sequencer) : (s.setPs b).gc = s.gc := rfl
@[simp] theorem setPs_eg (s : State) (b : Sequencer) : (s.setPs b).eg = s.eg := rfl
@[simp] theorem setPs_tu (s : State) (b : Sequencer) : (s.setPs b).tu = s.tu := rfl
@[simp] theorem setPs_ps (s : State) (b : Sequencer) : (s.setPs b).ps = b := rfl
@[simp] theorem setPs_cli (s : State) (b : Sequencer) : (s.setPs b).cli = s.cli := rfl
@[simp] theorem setPs_pva (s : State) (b : Sequencer) : (s.setPs b).pva = s.pva := rfl
@[simp] theorem setPs_prs (s : State) (b : Sequencer) : (s.setPs b).prs = s.prs := rfl
@[simp] theorem setPs_jp (s : State) (b : Sequencer) : (s.setPs b).jp = s.jp := rfl
@[simp] theorem setPs_setPs (s : State) (b b' : Sequencer) : (s.setPs b).setPs b' = s.setPs b' := rfl

@[simp] theorem setCli_pending (s : State) (b : CellLine) : (s.setCli b).pending = s.pending := rfl
@[simp] theorem setCli_now (s : State) (b : CellLine) : (s.setCli b).now = s.now := rfl
@[simp] theorem setCli_power (s : State) (b : CellLine) : (s.setCli b).power = s.power := rfl
@[simp] theorem setCli_cfg (s : State) (b : CellLine) : (s.setCli b).cfg = s.cfg := rfl
@[simp] theorem setCli_js (s : State) (b : CellLine) : (s.setCli b).js = s.js := rfl
@[simp] theorem setCli_pe (s : State) (b : CellLine) : (s.setCli b).pe = s.pe := rfl
@[simp] theorem setCli_gc (s : State) (b : CellLine) : (s.setCli b).gc = s.gc := rfl
@[simp] theorem setCli_eg (s : State) (b : CellLine) : (s.setCli b).eg = s.eg := rfl
@[simp] theorem setCli_tu (s : State) (b : CellLine) : (s.setCli b).tu = s.tu := rfl
@[simp] theorem setCli_ps (s : State) (b : CellLine) : (s.setCli b).ps = s.ps := rfl
@[simp] theorem setCli_cli (s : State) (b : CellLine) : (s.setCli b).cli = b := rfl
@[simp] theorem setCli_pva (s : State) (b : CellLine) : (s.setCli b).pva = s.pva := rfl
@[simp] theorem setCli_prs (s : State) (b : CellLine) : (s.setCli b).prs = s.prs := rfl
@[simp] theorem setCli_jp (s : State) (b : CellLine) : (s.setCli b).jp = s.jp := rfl
@[simp] theorem setCli_setCli (s : State) (b b' : CellLine) : (s.setCli b).setCli b' = s.setCli b' := rfl

@[simp] theorem setPva_pending (s : State) (b : PeerView) : (s.setPva b).pending = s.pending := rfl
@[simp] theorem setPva_now (s : State) (b : PeerView) : (s.setPva b).now = s.now := rfl
@[simp] theorem setPva_power (s : State) (b : PeerView) : (s.setPva b).power = s.power := rfl
@[simp] theorem setPva_cfg (s : State) (b : PeerView) : (s.setPva b).cfg = s.cfg := rfl
@[simp] theorem setPva_js (s : State) (b : PeerView) : (s.setPva b).js = s.js := rfl
@[simp] theorem setPva_pe (s : State) (b : PeerView) : (s.setPva b).pe = s.pe := rfl
@[simp] theorem setPva_gc (s : State) (b : PeerView) : (s.setPva b).gc = s.gc := rfl
@[simp] theorem setPva_eg (s : State) (b : PeerView) : (s.setPva b).eg = s.eg := rfl
@[simp] theorem setPva_tu (s : State) (b : PeerView) : (s.setPva b).tu = s.tu := rfl
@[simp] theorem setPva_ps (s : State) (b : PeerView) : (s.setPva b).ps = s.ps := rfl
@[simp] theorem setPva_cli (s : State) (b : PeerView) : (s.setPva b).cli = s.cli := rfl
@[simp] theorem setPva_pva (s : State) (b : PeerView) : (s.setPva b).pva = b := rfl
@[simp] theorem setPva_prs (s : State) (b : PeerView) : (s.setPva b).prs = s.prs := rfl
@[simp] theorem setPva_jp (s : State) (b : PeerView) : (s.setPva b).jp = s.jp := rfl
@[simp] theorem setPva_setPva (s : State) (b b' : PeerView) : (s.setPva b).setPva b' = s.setPva b' := rfl

@[simp] theorem setPrs_pending (s : State) (b : RecordStore) : (s.setPrs b).pending = s.pending := rfl
@[simp] theorem setPrs_now (s : State) (b : RecordStore) : (s.setPrs b).now = s.now := rfl
@[simp] theorem setPrs_power (s : State) (b : RecordStore) : (s.setPrs b).power = s.power := rfl
@[simp] theorem setPrs_cfg (s : State) (b : RecordStore) : (s.setPrs b).cfg = s.cfg := rfl
@[simp] theorem setPrs_js (s : State) (b : RecordStore) : (s.setPrs b).js = s.js := rfl
@[simp] theorem setPrs_pe (s : State) (b : RecordStore) : (s.setPrs b).pe = s.pe := rfl
@[simp] theorem setPrs_gc (s : State) (b : RecordStore) : (s.setPrs b).gc = s.gc := rfl
@[simp] theorem setPrs_eg (s : State) (b : RecordStore) : (s.setPrs b).eg = s.eg := rfl
@[simp] theorem setPrs_tu (s : State) (b : RecordStore) : (s.setPrs b).tu = s.tu := rfl
@[simp] theorem setPrs_ps (s : State) (b : RecordStore) : (s.setPrs b).ps = s.ps := rfl
@[simp] theorem setPrs_cli (s : State) (b : RecordStore) : (s.setPrs b).cli = s.cli := rfl
@[simp] theorem setPrs_pva (s : State) (b : RecordStore) : (s.setPrs b).pva = s.pva := rfl
@[simp] theorem setPrs_prs (s : State) (b : RecordStore) : (s.setPrs b).prs = b := rfl
@[simp] theorem setPrs_jp (s : State) (b : RecordStore) : (s.setPrs b).jp = s.jp := rfl
@[simp] theorem setPrs_setPrs (s : State) (b b' : RecordStore) : (s.setPrs b).setPrs b' = s.setPrs b' := rfl

@[simp] theorem setJp_pending (s : State) (b : JobPort) : (s.setJp b).pending = s.pending := rfl
@[simp] theorem setJp_now (s : State) (b : JobPort) : (s.setJp b).now = s.now := rfl
@[simp] theorem setJp_power (s : State) (b : JobPort) : (s.setJp b).power = s.power := rfl
@[simp] theorem setJp_cfg (s : State) (b : JobPort) : (s.setJp b).cfg = s.cfg := rfl
@[simp] theorem setJp_js (s : State) (b : JobPort) : (s.setJp b).js = s.js := rfl
@[simp] theorem setJp_pe (s : State) (b : JobPort) : (s.setJp b).pe = s.pe := rfl
@[simp] theorem setJp_gc (s : State) (b : JobPort) : (s.setJp b).gc = s.gc := rfl
@[simp] theorem setJp_eg (s : State) (b : JobPort) : (s.setJp b).eg = s.eg := rfl
@[simp] theorem setJp_tu (s : State) (b : JobPort) : (s.setJp b).tu = s.tu := rfl
@[simp] theorem setJp_ps (s : State) (b : JobPort) : (s.setJp b).ps = s.ps := rfl
@[simp] theorem setJp_cli (s : State) (b : JobPort) : (s.setJp b).cli = s.cli := rfl
@[simp] theorem setJp_pva (s : State) (b : JobPort) : (s.setJp b).pva = s.pva := rfl
@[simp] theorem setJp_prs (s : State) (b : JobPort) : (s.setJp b).prs = s.prs := rfl
@[simp] theorem setJp_jp (s : State) (b : JobPort) : (s.setJp b).jp = b := rfl
@[simp] theorem setJp_setJp (s : State) (b b' : JobPort) : (s.setJp b).setJp b' = s.setJp b' := rfl

@[simp] theorem atTime_pending (s : State) (t : Nat) : (s.atTime t).pending = s.pending := rfl
@[simp] theorem atTime_now (s : State) (t : Nat) : (s.atTime t).now = max s.now t := rfl
@[simp] theorem atTime_power (s : State) (t : Nat) : (s.atTime t).power = s.power := rfl
@[simp] theorem atTime_cfg (s : State) (t : Nat) : (s.atTime t).cfg = s.cfg := rfl
@[simp] theorem atTime_js (s : State) (t : Nat) : (s.atTime t).js = s.js := rfl
@[simp] theorem atTime_pe (s : State) (t : Nat) : (s.atTime t).pe = s.pe := rfl
@[simp] theorem atTime_gc (s : State) (t : Nat) : (s.atTime t).gc = s.gc := rfl
@[simp] theorem atTime_eg (s : State) (t : Nat) : (s.atTime t).eg = s.eg := rfl
@[simp] theorem atTime_tu (s : State) (t : Nat) : (s.atTime t).tu = s.tu := rfl
@[simp] theorem atTime_ps (s : State) (t : Nat) : (s.atTime t).ps = s.ps := rfl
@[simp] theorem atTime_cli (s : State) (t : Nat) : (s.atTime t).cli = s.cli := rfl
@[simp] theorem atTime_pva (s : State) (t : Nat) : (s.atTime t).pva = s.pva := rfl
@[simp] theorem atTime_prs (s : State) (t : Nat) : (s.atTime t).prs = s.prs := rfl
@[simp] theorem atTime_jp (s : State) (t : Nat) : (s.atTime t).jp = s.jp := rfl

end Sys2Proof.Machine.State
end

