-- ==== Sys2Proof/Laws/Blocks.lean ====
section
/-! SUPPORT. What the operations of one block do to that block: the record queue, the gap filter, the position,
the line coding, the peer entries. -/

namespace Sys2Proof.Machine

open Sys2Proof.Safety

/-! ## The record queue -/

/-- The words of the queue, in order. -/
def queueWords (r : RecordStore) : List Nat := r.queue.map (·.word)

/-- The bounds of R183 on the store alone. -/
def queueFits (r : RecordStore) : Prop := r.queue.length ≤ Config.queueCapacity ∧ (queueWords r).Nodup

@[simp] theorem beginUpdate_queue (now : Nat) (r : RecordStore) : (r.beginUpdate now).queue = r.queue := by
  unfold RecordStore.beginUpdate; split <;> simp_all

@[simp] theorem beginUpdate_announced (now : Nat) (r : RecordStore) :
    (r.beginUpdate now).announced = r.announced := by
  unfold RecordStore.beginUpdate; split <;> rfl

theorem hasEntry_iff (r : RecordStore) (w : Nat) : r.hasEntry w = true ↔ w ∈ queueWords r := by
  simp [RecordStore.hasEntry, queueWords]

theorem replaceValue_word (w : Nat) (v : Half) (mk : Bool) (e : QueueEntry) :
    (replaceValue w v mk e).word = e.word := by
  unfold replaceValue; split <;> rfl

/-- A join replaces in place, adds one word at the tail, or changes nothing (R183). -/
theorem join_words (now w : Nat) (v : Half) (mk : Bool) (r : RecordStore) :
    queueWords (r.join now w v mk) =
      if r.hasEntry w = false ∧ r.queue.length < Config.queueCapacity then queueWords r ++ [w]
      else queueWords r := by
  unfold RecordStore.join
  by_cases h : r.hasEntry w = true
  · simp [h, queueWords, Function.comp_def, replaceValue_word]
  · by_cases hl : r.queue.length < Config.queueCapacity
    · by_cases hq : r.queue = []
      · simp [h, hq, queueWords, Config.queueCapacity]
      · simp [h, hl, hq, queueWords]
    · simp [h, hl]

/-- A join keeps the queue within 8 entries, no two for one word (R183). -/
theorem join_fits {now w : Nat} {v : Half} {mk : Bool} {r : RecordStore} (h : queueFits r) :
    queueFits (r.join now w v mk) := by
  have hlen : ∀ q : RecordStore, q.queue.length = (queueWords q).length := fun q => by simp [queueWords]
  have hi := hasEntry_iff r w
  unfold queueFits at h ⊢
  rw [hlen] at h ⊢
  rw [join_words]
  by_cases hc : r.hasEntry w = false ∧ r.queue.length < Config.queueCapacity
  · rw [if_pos hc]
    have hw : w ∉ queueWords r := by
      intro hm; rw [hi.mpr hm] at hc; simp at hc
    refine ⟨?_, ?_⟩
    · have := hc.2; rw [hlen] at this; simp; omega
    · rw [List.nodup_append]
      exact ⟨h.2, by simp, by intro a ha b hb; simp at hb; subst hb; intro e; subst e; exact hw ha⟩
  · rw [if_neg hc]; exact h

theorem feedOne_fits {now : Nat} {r : RecordStore} (h : queueFits r) : queueFits (r.feedOne now) := by
  unfold RecordStore.feedOne
  split
  · exact h
  · split
    · exact join_fits (now := now) h
    · exact h

theorem feedAll_fits {now : Nat} (n : Nat) {r : RecordStore} (h : queueFits r) :
    queueFits (RecordStore.feedAll now n r) := by
  induction n generalizing r with
  | zero => exact h
  | succ n ih => exact ih (feedOne_fits h)

/-- Once an offer changes nothing, no later one does. -/
theorem feedAll_stuck {now : Nat} {r : RecordStore} (h : r.feedOne now = r) (n : Nat) : r.feedAll now n = r := by
  induction n with
  | zero => rfl
  | succ n ih => rw [RecordStore.feedAll, h, ih]

/-- A full queue that holds no entry for the next word takes no offer. -/
theorem feedOne_full {now k : Nat} {r : RecordStore} (hf : r.feed = some k)
    (h : r.canJoin (newPlateUpdate r.plateArg k).1 = false) : r.feedOne now = r := by
  simp [RecordStore.feedOne, hf, h]

theorem removeHead_fits {now : Nat} {r : RecordStore} (h : queueFits r) : queueFits (r.removeHead now) := by
  unfold RecordStore.removeHead queueFits queueWords at *
  simp only [beginUpdate_queue, List.length_tail]
  refine ⟨by omega, ?_⟩
  rw [List.map_tail]
  exact h.2.sublist (List.tail_sublist _)

theorem beginUpdate_fits {now : Nat} {r : RecordStore} (h : queueFits r) : queueFits (r.beginUpdate now) := by
  simpa [queueFits, queueWords] using h

theorem endNewPlate_fits {r : RecordStore} (h : queueFits r) : queueFits r.endNewPlate := by
  unfold RecordStore.endNewPlate; split <;> exact h

theorem lose_fits (r : RecordStore) : queueFits r.lose := by
  simp [queueFits, queueWords, RecordStore.lose, RecordStore.reset]

/-- With no NEW_PLATE running there is nothing to feed. -/
theorem feedAll_idle {now : Nat} {r : RecordStore} (h : r.feed = none) (n : Nat) : r.feedAll now n = r :=
  feedAll_stuck (by simp [RecordStore.feedOne, h]) n

/-! ## The gap filter -/

/-- A sample keeps the accumulator within 8184 (R52). -/
theorem filterSample_acc {c : Params} {gc : GapControl} {v : Nat} (h : gc.acc ≤ 8184) (hv : v ≤ 1023) :
    (filterSample c v gc).acc ≤ 8184 := by
  simp only [filterSample, setAccumulator]; omega

/-- The approach value is within 8184 (R52, R53). -/
theorem approach_acc {c : Params} (gc : GapControl) (h : c.tOpen ≤ 1023) : (approach c gc).acc ≤ 8184 := by
  simp only [approach, setAccumulator]; omega

/-- The thresholds read at start-up are within 1023 (R54). -/
theorem paramsOfWords_tOpen (w : Nat → Half) : (paramsOfWords w).tOpen ≤ 1023 := by
  unfold paramsOfWords clampTo Config.factoryTo
  dsimp only
  split <;> omega

/-! ## The position -/

theorem clampCoord_range (c : Int) : -Config.coordLimit ≤ clampCoord c ∧ clampCoord c ≤ Config.coordLimit := by
  unfold clampCoord Config.coordLimit; omega

/-- A step leaves its axis in range and the other axis as it was (R22, R24). -/
theorem issueStep_position (st : PathStep) (pe : PathEngine) :
    (issueStep st pe).posX = (if st.axis = .x then clampCoord (moveBy st.pos pe.posX) else pe.posX)
      ∧ (issueStep st pe).posY = (if st.axis = .y then clampCoord (moveBy st.pos pe.posY) else pe.posY) := by
  unfold issueStep; split <;> simp_all

/-! ## Manchester coding -/

@[simp] theorem manchester_nil : manchester [] = [] := rfl

@[simp] theorem manchester_cons (b : Bool) (bs : List Bool) : manchester (b :: bs) = b :: (!b) :: manchester bs := rfl

/-- What is sent is decoded bit for bit (R135). -/
@[simp] theorem decodeHalves_manchester (bs : List Bool) : decodeHalves (manchester bs) = bs.map some := by
  induction bs with
  | nil => rfl
  | cons b bs ih => cases b <;> simp [decodeHalves, ih]

/-- A sent run of bits is received as it was sent (R135). -/
theorem burst_manchester (bs : List Bool) (own : Bool) :
    Burst.bits { halves := manchester bs, ownDrove := own } = bs
      ∧ Burst.violation { halves := manchester bs, ownDrove := own } = false
      ∧ Burst.overStuck { halves := manchester bs, ownDrove := own } = decide (400 < bs.length) := by
  have hl : (manchester bs).length = 2 * bs.length := by
    induction bs with
    | nil => rfl
    | cons b bs ih => simp [ih]; omega
  refine ⟨by simp [Burst.bits, Function.comp_def], by simp [Burst.violation], ?_⟩
  simp only [Burst.overStuck, Config.stuckHalves, hl, decide_eq_decide]; omega

/-! ## Peer entries -/

theorem peerNever_ok : PeerOk Peer.never := by simp [PeerOk, Peer.never]

theorem aged_ok {p : Peer} (h : PeerOk p) : PeerOk p.aged := by
  unfold PeerOk Peer.aged saturate at *
  split
  · exact h
  · split <;> simp_all

theorem afterFrame_ok {ann : Half} {f : Frame} {p : Peer} (h : PeerOk p) : PeerOk (p.afterFrame ann f) := by
  have hn : f.count.toNat < 256 := f.count.isLt
  unfold PeerOk at *
  unfold Peer.afterFrame Peer.releases Peer.recount saturate
  dsimp only
  refine ⟨Nat.zero_le _, ?_⟩
  repeat' split
  all_goals simp_all
  all_goals omega

theorem newIdentity_ok {ann : Half} {p : Peer} (h : PeerOk p) : PeerOk (p.newIdentity ann) := by
  have hn : p.last.toNat < 256 := p.last.isLt
  unfold PeerOk at *
  unfold Peer.newIdentity Peer.recount
  repeat' split
  all_goals simp_all
  all_goals omega

/-- An entry that is not NEVER stays so as it ages. -/
theorem aged_ne_never {p : Peer} (h : p ≠ Peer.never) : p.aged ≠ Peer.never := by
  unfold Peer.aged
  split
  · exact h
  · split
    · intro e; have := congrArg Peer.live e; simp [Peer.never] at this
    · intro e; have := congrArg Peer.live e
      simp only [Peer.never, livenessOf] at this
      split at this <;> (try split at this) <;> simp at this

end Sys2Proof.Machine
end

