-- ==== Sys2Proof/Laws/Frames.lean ====
section
/-! SUPPORT. For each shared operation, the blocks it leaves as they were. -/

namespace Sys2Proof.Machine

/-- A flag's setting touches the Job Port alone (R203). -/
@[simp] theorem raiseFlag_frame (b : Nat) (s : State) :
    (raiseFlag b s).pending = s.pending ∧ (raiseFlag b s).now = s.now ∧ (raiseFlag b s).power = s.power
      ∧ (raiseFlag b s).cfg = s.cfg ∧ (raiseFlag b s).js = s.js ∧ (raiseFlag b s).pe = s.pe
      ∧ (raiseFlag b s).gc = s.gc ∧ (raiseFlag b s).eg = s.eg ∧ (raiseFlag b s).tu = s.tu
      ∧ (raiseFlag b s).ps = s.ps ∧ (raiseFlag b s).cli = s.cli ∧ (raiseFlag b s).pva = s.pva
      ∧ (raiseFlag b s).prs = s.prs := by
  unfold raiseFlag
  simp

/-- Showing a head state touches the Part Sequencer alone (R113). -/
@[simp] theorem showHead_frame (h : HeadState) (s : State) :
    (showHead h s).pending = s.pending ∧ (showHead h s).now = s.now ∧ (showHead h s).power = s.power
      ∧ (showHead h s).cfg = s.cfg ∧ (showHead h s).js = s.js ∧ (showHead h s).pe = s.pe
      ∧ (showHead h s).gc = s.gc ∧ (showHead h s).eg = s.eg ∧ (showHead h s).tu = s.tu
      ∧ (showHead h s).cli = s.cli ∧ (showHead h s).pva = s.pva ∧ (showHead h s).prs = s.prs
      ∧ (showHead h s).jp = s.jp := by
  unfold showHead
  split <;> simp

/-- Noting where the part stands touches the Part Sequencer alone. -/
@[simp] theorem setActivity_frame (a : Activity) (s : State) :
    (setActivity a s).pending = s.pending ∧ (setActivity a s).now = s.now ∧ (setActivity a s).power = s.power
      ∧ (setActivity a s).cfg = s.cfg ∧ (setActivity a s).js = s.js ∧ (setActivity a s).pe = s.pe
      ∧ (setActivity a s).gc = s.gc ∧ (setActivity a s).eg = s.eg ∧ (setActivity a s).tu = s.tu
      ∧ (setActivity a s).cli = s.cli ∧ (setActivity a s).pva = s.pva ∧ (setActivity a s).prs = s.prs
      ∧ (setActivity a s).jp = s.jp := by
  unfold setActivity
  simp

/-- Queueing an update touches the Part Record Store alone (R115). -/
@[simp] theorem queueUpdate_frame (u : PartUpdate) (s : State) :
    (queueUpdate u s).pending = s.pending ∧ (queueUpdate u s).now = s.now ∧ (queueUpdate u s).power = s.power
      ∧ (queueUpdate u s).cfg = s.cfg ∧ (queueUpdate u s).js = s.js ∧ (queueUpdate u s).pe = s.pe
      ∧ (queueUpdate u s).gc = s.gc ∧ (queueUpdate u s).eg = s.eg ∧ (queueUpdate u s).tu = s.tu
      ∧ (queueUpdate u s).ps = s.ps ∧ (queueUpdate u s).cli = s.cli ∧ (queueUpdate u s).pva = s.pva
      ∧ (queueUpdate u s).jp = s.jp := by
  unfold queueUpdate
  simp

/-- The counts of a release (R122). -/
@[simp] theorem countRelease_frame (z : Nat) (s : State) :
    (countRelease z s).pending = s.pending ∧ (countRelease z s).now = s.now
      ∧ (countRelease z s).power = s.power ∧ (countRelease z s).cfg = s.cfg ∧ (countRelease z s).js = s.js
      ∧ (countRelease z s).pe = s.pe ∧ (countRelease z s).gc = s.gc ∧ (countRelease z s).eg = s.eg
      ∧ (countRelease z s).tu = s.tu ∧ (countRelease z s).cli = s.cli ∧ (countRelease z s).prs = s.prs
      ∧ (countRelease z s).jp = s.jp := by
  unfold countRelease
  simp

/-- What an update that joined brings (R115, R117, R122). -/
@[simp] theorem noteUpdate_frame (u : PartUpdate) (s : State) :
    (noteUpdate u s).pending = s.pending ∧ (noteUpdate u s).now = s.now ∧ (noteUpdate u s).power = s.power
      ∧ (noteUpdate u s).cfg = s.cfg ∧ (noteUpdate u s).js = s.js ∧ (noteUpdate u s).pe = s.pe
      ∧ (noteUpdate u s).gc = s.gc ∧ (noteUpdate u s).eg = s.eg ∧ (noteUpdate u s).tu = s.tu
      ∧ (noteUpdate u s).cli = s.cli ∧ (noteUpdate u s).prs = s.prs := by
  unfold noteUpdate
  (repeat' split) <;> simp

/-- An intent's beginning (R164). -/
@[simp] theorem beginIntent_frame (k : IntentKind) (s : State) :
    (beginIntent k s).pending = s.pending ∧ (beginIntent k s).now = s.now ∧ (beginIntent k s).power = s.power
      ∧ (beginIntent k s).cfg = s.cfg ∧ (beginIntent k s).js = s.js ∧ (beginIntent k s).pe = s.pe
      ∧ (beginIntent k s).gc = s.gc ∧ (beginIntent k s).eg = s.eg ∧ (beginIntent k s).tu = s.tu
      ∧ (beginIntent k s).ps = s.ps ∧ (beginIntent k s).cli = s.cli ∧ (beginIntent k s).prs = s.prs
      ∧ (beginIntent k s).jp = s.jp := by
  unfold beginIntent
  simp

/-- An intent's end (R166). -/
@[simp] theorem endIntent_frame (s : State) :
    (endIntent s).pending = s.pending ∧ (endIntent s).now = s.now ∧ (endIntent s).power = s.power
      ∧ (endIntent s).cfg = s.cfg ∧ (endIntent s).js = s.js ∧ (endIntent s).pe = s.pe
      ∧ (endIntent s).gc = s.gc ∧ (endIntent s).eg = s.eg ∧ (endIntent s).tu = s.tu ∧ (endIntent s).ps = s.ps
      ∧ (endIntent s).prs = s.prs ∧ (endIntent s).jp = s.jp := by
  unfold endIntent
  simp

/-- An announcement (R165). -/
@[simp] theorem announceIntent_frame (a : Nat) (s : State) :
    (announceIntent a s).pending = s.pending ∧ (announceIntent a s).now = s.now
      ∧ (announceIntent a s).power = s.power ∧ (announceIntent a s).cfg = s.cfg
      ∧ (announceIntent a s).js = s.js ∧ (announceIntent a s).pe = s.pe ∧ (announceIntent a s).gc = s.gc
      ∧ (announceIntent a s).eg = s.eg ∧ (announceIntent a s).tu = s.tu ∧ (announceIntent a s).ps = s.ps
      ∧ (announceIntent a s).cli = s.cli ∧ (announceIntent a s).prs = s.prs ∧ (announceIntent a s).jp = s.jp := by
  unfold announceIntent
  simp

/-- The entry to WAIT_THREAD (R114). -/
@[simp] theorem enterWaitThread_frame (p : Purpose) (s : State) :
    (enterWaitThread p s).pending = s.pending ∧ (enterWaitThread p s).now = s.now
      ∧ (enterWaitThread p s).power = s.power ∧ (enterWaitThread p s).cfg = s.cfg
      ∧ (enterWaitThread p s).js = s.js ∧ (enterWaitThread p s).pe = s.pe ∧ (enterWaitThread p s).gc = s.gc
      ∧ (enterWaitThread p s).eg = s.eg ∧ (enterWaitThread p s).tu = s.tu ∧ (enterWaitThread p s).cli = s.cli
      ∧ (enterWaitThread p s).prs = s.prs ∧ (enterWaitThread p s).jp = s.jp := by
  unfold enterWaitThread
  simp

/-- The entry to WAIT_RELEASE (R114). -/
@[simp] theorem enterWaitRelease_frame (s : State) :
    (enterWaitRelease s).pending = s.pending ∧ (enterWaitRelease s).now = s.now
      ∧ (enterWaitRelease s).power = s.power ∧ (enterWaitRelease s).cfg = s.cfg
      ∧ (enterWaitRelease s).js = s.js ∧ (enterWaitRelease s).pe = s.pe ∧ (enterWaitRelease s).gc = s.gc
      ∧ (enterWaitRelease s).eg = s.eg ∧ (enterWaitRelease s).tu = s.tu ∧ (enterWaitRelease s).cli = s.cli
      ∧ (enterWaitRelease s).prs = s.prs ∧ (enterWaitRelease s).jp = s.jp := by
  unfold enterWaitRelease
  simp

/-- Traverse completion (R31). -/
@[simp] theorem arrive_frame (p : Purpose) (s : State) :
    (arrive p s).pending = s.pending ∧ (arrive p s).now = s.now ∧ (arrive p s).power = s.power
      ∧ (arrive p s).cfg = s.cfg ∧ (arrive p s).js = s.js ∧ (arrive p s).gc = s.gc ∧ (arrive p s).eg = s.eg
      ∧ (arrive p s).tu = s.tu ∧ (arrive p s).cli = s.cli ∧ (arrive p s).prs = s.prs ∧ (arrive p s).jp = s.jp := by
  unfold arrive
  simp

/-- A traverse request (R30). -/
@[simp] theorem requestTraverse_frame (t : Int × Int) (p : Purpose) (s : State) :
    (requestTraverse t p s).pending = s.pending ∧ (requestTraverse t p s).now = s.now
      ∧ (requestTraverse t p s).power = s.power ∧ (requestTraverse t p s).cfg = s.cfg
      ∧ (requestTraverse t p s).js = s.js ∧ (requestTraverse t p s).gc = s.gc
      ∧ (requestTraverse t p s).eg = s.eg ∧ (requestTraverse t p s).tu = s.tu
      ∧ (requestTraverse t p s).cli = s.cli ∧ (requestTraverse t p s).prs = s.prs
      ∧ (requestTraverse t p s).jp = s.jp := by
  unfold requestTraverse
  split <;> simp

/-- A pass start (R34, R58, R73). -/
@[simp] theorem startPass_frame (k : PassKind) (p : Nat) (pe : PathEngine) (s : State) :
    (startPass k p pe s).pending = s.pending ∧ (startPass k p pe s).now = s.now
      ∧ (startPass k p pe s).power = s.power ∧ (startPass k p pe s).cfg = s.cfg
      ∧ (startPass k p pe s).js = s.js ∧ (startPass k p pe s).tu = s.tu ∧ (startPass k p pe s).ps = s.ps
      ∧ (startPass k p pe s).cli = s.cli ∧ (startPass k p pe s).pva = s.pva
      ∧ (startPass k p pe s).prs = s.prs ∧ (startPass k p pe s).jp = s.jp := by
  unfold startPass
  simp

/-- The load of a rough pass (R34). -/
@[simp] theorem loadRoughPass_frame (s : State) :
    (loadRoughPass s).pending = s.pending ∧ (loadRoughPass s).now = s.now ∧ (loadRoughPass s).power = s.power
      ∧ (loadRoughPass s).cfg = s.cfg ∧ (loadRoughPass s).js = s.js ∧ (loadRoughPass s).tu = s.tu
      ∧ (loadRoughPass s).cli = s.cli ∧ (loadRoughPass s).pva = s.pva ∧ (loadRoughPass s).prs = s.prs
      ∧ (loadRoughPass s).jp = s.jp := by
  unfold loadRoughPass
  split <;> simp

/-- The load of a release pass (R35). -/
@[simp] theorem loadReleasePass_frame (s : State) :
    (loadReleasePass s).pending = s.pending ∧ (loadReleasePass s).now = s.now
      ∧ (loadReleasePass s).power = s.power ∧ (loadReleasePass s).cfg = s.cfg ∧ (loadReleasePass s).js = s.js
      ∧ (loadReleasePass s).tu = s.tu ∧ (loadReleasePass s).cli = s.cli ∧ (loadReleasePass s).pva = s.pva
      ∧ (loadReleasePass s).prs = s.prs ∧ (loadReleasePass s).jp = s.jp := by
  unfold loadReleasePass
  dsimp only
  (repeat' split) <;> simp

/-- The halt for a record fault (R131). -/
@[simp] theorem haltForRecord_frame (s : State) :
    (haltForRecord s).pending = s.pending ∧ (haltForRecord s).now = s.now ∧ (haltForRecord s).power = s.power
      ∧ (haltForRecord s).cfg = s.cfg ∧ (haltForRecord s).js = s.js ∧ (haltForRecord s).pe = s.pe
      ∧ (haltForRecord s).gc = s.gc ∧ (haltForRecord s).eg = s.eg ∧ (haltForRecord s).tu = s.tu
      ∧ (haltForRecord s).cli = s.cli ∧ (haltForRecord s).pva = s.pva ∧ (haltForRecord s).prs = s.prs
      ∧ (haltForRecord s).jp = s.jp := by
  unfold haltForRecord
  simp

/-- The end of the release phase (R112). -/
@[simp] theorem completePhase_frame (s : State) :
    (completePhase s).pending = s.pending ∧ (completePhase s).now = s.now ∧ (completePhase s).power = s.power
      ∧ (completePhase s).cfg = s.cfg ∧ (completePhase s).js = s.js ∧ (completePhase s).gc = s.gc
      ∧ (completePhase s).eg = s.eg ∧ (completePhase s).tu = s.tu ∧ (completePhase s).cli = s.cli
      ∧ (completePhase s).pva = s.pva ∧ (completePhase s).prs = s.prs := by
  unfold completePhase
  split <;> simp

/-- The taking up of a rough-phase part (R118). -/
@[simp] theorem takeRough_frame (p : Nat) (s : State) :
    (takeRough p s).pending = s.pending ∧ (takeRough p s).now = s.now ∧ (takeRough p s).power = s.power
      ∧ (takeRough p s).cfg = s.cfg ∧ (takeRough p s).js = s.js ∧ (takeRough p s).gc = s.gc
      ∧ (takeRough p s).eg = s.eg ∧ (takeRough p s).tu = s.tu ∧ (takeRough p s).cli = s.cli
      ∧ (takeRough p s).prs = s.prs ∧ (takeRough p s).jp = s.jp := by
  unfold takeRough
  simp

/-- The taking up of a release-phase part (R125). -/
@[simp] theorem takeRelease_frame (p : Nat) (a : Option Nat) (s : State) :
    (takeRelease p a s).pending = s.pending ∧ (takeRelease p a s).now = s.now
      ∧ (takeRelease p a s).power = s.power ∧ (takeRelease p a s).cfg = s.cfg ∧ (takeRelease p a s).js = s.js
      ∧ (takeRelease p a s).gc = s.gc ∧ (takeRelease p a s).eg = s.eg ∧ (takeRelease p a s).tu = s.tu
      ∧ (takeRelease p a s).cli = s.cli ∧ (takeRelease p a s).prs = s.prs ∧ (takeRelease p a s).jp = s.jp := by
  unfold takeRelease
  simp

/-- The entry to a record wait (R116). -/
@[simp] theorem enterRecordWait_frame (u : PartUpdate) (k : Follow) (s : State) :
    (enterRecordWait u k s).pending = s.pending ∧ (enterRecordWait u k s).now = s.now
      ∧ (enterRecordWait u k s).power = s.power ∧ (enterRecordWait u k s).cfg = s.cfg
      ∧ (enterRecordWait u k s).js = s.js ∧ (enterRecordWait u k s).pe = s.pe
      ∧ (enterRecordWait u k s).gc = s.gc ∧ (enterRecordWait u k s).eg = s.eg
      ∧ (enterRecordWait u k s).tu = s.tu ∧ (enterRecordWait u k s).cli = s.cli
      ∧ (enterRecordWait u k s).pva = s.pva ∧ (enterRecordWait u k s).prs = s.prs
      ∧ (enterRecordWait u k s).jp = s.jp := by
  unfold enterRecordWait
  simp

/-- The walk of the phases moves nothing of the cut, the threader or the line (R118, R123). -/
@[simp] theorem walk_frame (n : Nat) (s : State) :
    (walk n s).pending = s.pending ∧ (walk n s).now = s.now ∧ (walk n s).power = s.power
      ∧ (walk n s).cfg = s.cfg ∧ (walk n s).js = s.js ∧ (walk n s).gc = s.gc ∧ (walk n s).eg = s.eg
      ∧ (walk n s).tu = s.tu ∧ (walk n s).cli = s.cli := by
  induction n generalizing s with
  | zero => simp [walk]
  | succ n ih =>
    unfold walk chooseRelease
    (repeat' split) <;> simp_all <;> aesop

/-- A part boundary (R131). -/
@[simp] theorem partBoundary_frame (s : State) :
    (partBoundary s).pending = s.pending ∧ (partBoundary s).now = s.now ∧ (partBoundary s).power = s.power
      ∧ (partBoundary s).cfg = s.cfg ∧ (partBoundary s).js = s.js ∧ (partBoundary s).gc = s.gc
      ∧ (partBoundary s).eg = s.eg ∧ (partBoundary s).tu = s.tu ∧ (partBoundary s).cli = s.cli := by
  unfold partBoundary
  (repeat' split) <;> simp

/-- An unthread at the Threading Unit (R104). -/
@[simp] theorem unitUnthread_frame (s : State) :
    (unitUnthread s).pending = s.pending ∧ (unitUnthread s).now = s.now ∧ (unitUnthread s).power = s.power
      ∧ (unitUnthread s).cfg = s.cfg ∧ (unitUnthread s).js = s.js ∧ (unitUnthread s).pe = s.pe
      ∧ (unitUnthread s).gc = s.gc ∧ (unitUnthread s).eg = s.eg ∧ (unitUnthread s).ps = s.ps
      ∧ (unitUnthread s).cli = s.cli ∧ (unitUnthread s).pva = s.pva ∧ (unitUnthread s).prs = s.prs
      ∧ (unitUnthread s).jp = s.jp := by
  unfold unitUnthread
  split <;> simp

/-- An unthread request (R104). -/
@[simp] theorem requestUnthread_frame (s : State) :
    (requestUnthread s).pending = s.pending ∧ (requestUnthread s).now = s.now
      ∧ (requestUnthread s).power = s.power ∧ (requestUnthread s).cfg = s.cfg ∧ (requestUnthread s).js = s.js
      ∧ (requestUnthread s).gc = s.gc ∧ (requestUnthread s).eg = s.eg ∧ (requestUnthread s).cli = s.cli := by
  unfold requestUnthread
  split <;> simp

/-- What follows an update (R116). -/
@[simp] theorem followUp_frame (k : Follow) (s : State) :
    (followUp k s).pending = s.pending ∧ (followUp k s).now = s.now ∧ (followUp k s).power = s.power
      ∧ (followUp k s).cfg = s.cfg ∧ (followUp k s).js = s.js ∧ (followUp k s).cli = s.cli := by
  unfold followUp
  split <;> simp

/-- An update and what follows it (R115, R116). -/
@[simp] theorem settle_frame (u : PartUpdate) (k : Follow) (h : HeadState) (s : State) :
    (settle u k h s).pending = s.pending ∧ (settle u k h s).now = s.now ∧ (settle u k h s).power = s.power
      ∧ (settle u k h s).cfg = s.cfg ∧ (settle u k h s).js = s.js ∧ (settle u k h s).cli = s.cli := by
  unfold settle
  split <;> simp

/-- The end of a pass (R40, R46). -/
@[simp] theorem endPass_frame (s : State) :
    (endPass s).pending = s.pending ∧ (endPass s).now = s.now ∧ (endPass s).power = s.power
      ∧ (endPass s).cfg = s.cfg ∧ (endPass s).js = s.js ∧ (endPass s).eg = s.eg ∧ (endPass s).tu = s.tu
      ∧ (endPass s).ps = s.ps ∧ (endPass s).cli = s.cli ∧ (endPass s).pva = s.pva ∧ (endPass s).prs = s.prs
      ∧ (endPass s).jp = s.jp := by
  unfold endPass
  simp

/-- The hold event (R120). -/
@[simp] theorem holdEvent_frame (s : State) :
    (holdEvent s).pending = s.pending ∧ (holdEvent s).now = s.now ∧ (holdEvent s).power = s.power
      ∧ (holdEvent s).cfg = s.cfg ∧ (holdEvent s).js = s.js ∧ (holdEvent s).cli = s.cli := by
  unfold holdEvent
  (repeat' split) <;> simp

/-- The contour end (R122). -/
@[simp] theorem contourEnd_frame (s : State) :
    (contourEnd s).pending = s.pending ∧ (contourEnd s).now = s.now ∧ (contourEnd s).power = s.power
      ∧ (contourEnd s).cfg = s.cfg ∧ (contourEnd s).js = s.js ∧ (contourEnd s).cli = s.cli := by
  unfold contourEnd
  split <;> simp

/-- A mark's firing (R45). -/
@[simp] theorem fireMark_frame (m : Nat) (s : State) :
    (fireMark m s).pending = s.pending ∧ (fireMark m s).now = s.now ∧ (fireMark m s).power = s.power
      ∧ (fireMark m s).cfg = s.cfg ∧ (fireMark m s).js = s.js ∧ (fireMark m s).gc = s.gc
      ∧ (fireMark m s).eg = s.eg ∧ (fireMark m s).tu = s.tu ∧ (fireMark m s).ps = s.ps
      ∧ (fireMark m s).cli = s.cli ∧ (fireMark m s).pva = s.pva ∧ (fireMark m s).prs = s.prs
      ∧ (fireMark m s).jp = s.jp := by
  unfold fireMark
  simp

/-- The mark check (R45 to R47). -/
@[simp] theorem checkMark_frame (s : State) :
    (checkMark s).pending = s.pending ∧ (checkMark s).now = s.now ∧ (checkMark s).power = s.power
      ∧ (checkMark s).cfg = s.cfg ∧ (checkMark s).js = s.js ∧ (checkMark s).cli = s.cli := by
  unfold checkMark
  (repeat' split) <;> simp

/-- The contour check (R40). -/
@[simp] theorem checkContour_frame (s : State) :
    (checkContour s).pending = s.pending ∧ (checkContour s).now = s.now ∧ (checkContour s).power = s.power
      ∧ (checkContour s).cfg = s.cfg ∧ (checkContour s).js = s.js ∧ (checkContour s).cli = s.cli := by
  unfold checkContour
  (repeat' split) <;> simp

/-- What follows a forward cut step (R44). -/
@[simp] theorem afterForward_frame (s : State) :
    (afterForward s).pending = s.pending ∧ (afterForward s).now = s.now ∧ (afterForward s).power = s.power
      ∧ (afterForward s).cfg = s.cfg ∧ (afterForward s).js = s.js ∧ (afterForward s).cli = s.cli := by
  unfold afterForward
  simp

/-- A retract step (R41, R62). -/
@[simp] theorem retractOnce_frame (s : State) :
    (retractOnce s).pending = s.pending ∧ (retractOnce s).now = s.now ∧ (retractOnce s).power = s.power
      ∧ (retractOnce s).cfg = s.cfg ∧ (retractOnce s).js = s.js ∧ (retractOnce s).eg = s.eg
      ∧ (retractOnce s).tu = s.tu ∧ (retractOnce s).ps = s.ps ∧ (retractOnce s).cli = s.cli
      ∧ (retractOnce s).pva = s.pva ∧ (retractOnce s).prs = s.prs ∧ (retractOnce s).jp = s.jp := by
  unfold retractOnce
  split <;> simp

/-- A retract step already asked for (R64). -/
@[simp] theorem completeAsked_frame (s : State) :
    (completeAsked s).pending = s.pending ∧ (completeAsked s).now = s.now ∧ (completeAsked s).power = s.power
      ∧ (completeAsked s).cfg = s.cfg ∧ (completeAsked s).js = s.js ∧ (completeAsked s).eg = s.eg
      ∧ (completeAsked s).tu = s.tu ∧ (completeAsked s).ps = s.ps ∧ (completeAsked s).cli = s.cli
      ∧ (completeAsked s).pva = s.pva ∧ (completeAsked s).prs = s.prs ∧ (completeAsked s).jp = s.jp := by
  unfold completeAsked
  split <;> simp

/-- The entry to STALLED (R66). -/
@[simp] theorem enterStall_frame (s : State) :
    (enterStall s).pending = s.pending ∧ (enterStall s).now = s.now ∧ (enterStall s).power = s.power
      ∧ (enterStall s).cfg = s.cfg ∧ (enterStall s).js = s.js ∧ (enterStall s).pe = s.pe
      ∧ (enterStall s).eg = s.eg ∧ (enterStall s).tu = s.tu ∧ (enterStall s).cli = s.cli
      ∧ (enterStall s).pva = s.pva ∧ (enterStall s).prs = s.prs ∧ (enterStall s).jp = s.jp := by
  unfold enterStall
  simp

/-- The entry to RETRACTING (R61). -/
@[simp] theorem beginRetract_frame (s : State) :
    (beginRetract s).pending = s.pending ∧ (beginRetract s).now = s.now ∧ (beginRetract s).power = s.power
      ∧ (beginRetract s).cfg = s.cfg ∧ (beginRetract s).js = s.js ∧ (beginRetract s).pe = s.pe
      ∧ (beginRetract s).eg = s.eg ∧ (beginRetract s).tu = s.tu ∧ (beginRetract s).cli = s.cli
      ∧ (beginRetract s).pva = s.pva ∧ (beginRetract s).prs = s.prs ∧ (beginRetract s).jp = s.jp := by
  unfold beginRetract
  split <;> simp

/-- The end of a retract episode (R65). -/
@[simp] theorem endEpisode_frame (s : State) :
    (endEpisode s).pending = s.pending ∧ (endEpisode s).now = s.now ∧ (endEpisode s).power = s.power
      ∧ (endEpisode s).cfg = s.cfg ∧ (endEpisode s).js = s.js ∧ (endEpisode s).tu = s.tu
      ∧ (endEpisode s).ps = s.ps ∧ (endEpisode s).cli = s.cli ∧ (endEpisode s).pva = s.pva
      ∧ (endEpisode s).prs = s.prs ∧ (endEpisode s).jp = s.jp := by
  unfold endEpisode
  simp

/-- A cleared gap (R64). -/
@[simp] theorem replayOrEnd_frame (s : State) :
    (replayOrEnd s).pending = s.pending ∧ (replayOrEnd s).now = s.now ∧ (replayOrEnd s).power = s.power
      ∧ (replayOrEnd s).cfg = s.cfg ∧ (replayOrEnd s).js = s.js ∧ (replayOrEnd s).tu = s.tu
      ∧ (replayOrEnd s).ps = s.ps ∧ (replayOrEnd s).cli = s.cli ∧ (replayOrEnd s).pva = s.pva
      ∧ (replayOrEnd s).prs = s.prs ∧ (replayOrEnd s).jp = s.jp := by
  unfold replayOrEnd
  split <;> simp

/-- The end of a stall (R66). -/
@[simp] theorem endStall_frame (s : State) :
    (endStall s).pending = s.pending ∧ (endStall s).now = s.now ∧ (endStall s).power = s.power
      ∧ (endStall s).cfg = s.cfg ∧ (endStall s).js = s.js ∧ (endStall s).tu = s.tu ∧ (endStall s).cli = s.cli
      ∧ (endStall s).pva = s.pva ∧ (endStall s).prs = s.prs ∧ (endStall s).jp = s.jp := by
  unfold endStall
  simp

/-- A RESUME on a stuck stall (R68). -/
@[simp] theorem stallRestart_frame (s : State) :
    (stallRestart s).pending = s.pending ∧ (stallRestart s).now = s.now ∧ (stallRestart s).power = s.power
      ∧ (stallRestart s).cfg = s.cfg ∧ (stallRestart s).js = s.js ∧ (stallRestart s).tu = s.tu
      ∧ (stallRestart s).cli = s.cli ∧ (stallRestart s).pva = s.pva ∧ (stallRestart s).prs = s.prs
      ∧ (stallRestart s).jp = s.jp := by
  unfold stallRestart
  simp

/-- A pass ended as SKIP_PART ends one (R38). -/
@[simp] theorem dropPass_frame (s : State) :
    (dropPass s).pending = s.pending ∧ (dropPass s).now = s.now ∧ (dropPass s).power = s.power
      ∧ (dropPass s).cfg = s.cfg ∧ (dropPass s).js = s.js ∧ (dropPass s).tu = s.tu ∧ (dropPass s).ps = s.ps
      ∧ (dropPass s).cli = s.cli ∧ (dropPass s).pva = s.pva ∧ (dropPass s).prs = s.prs
      ∧ (dropPass s).jp = s.jp := by
  unfold dropPass
  simp

/-- A sample's action (R61, R64, R66). -/
@[simp] theorem actOnSample_frame (s : State) :
    (actOnSample s).pending = s.pending ∧ (actOnSample s).now = s.now ∧ (actOnSample s).power = s.power
      ∧ (actOnSample s).cfg = s.cfg ∧ (actOnSample s).js = s.js ∧ (actOnSample s).tu = s.tu
      ∧ (actOnSample s).cli = s.cli ∧ (actOnSample s).pva = s.pva ∧ (actOnSample s).prs = s.prs
      ∧ (actOnSample s).jp = s.jp := by
  unfold actOnSample
  split <;> simp

/-- A thread grant (R88). -/
@[simp] theorem grantThread_frame (p : Purpose) (s : State) :
    (grantThread p s).pending = s.pending ∧ (grantThread p s).now = s.now ∧ (grantThread p s).power = s.power
      ∧ (grantThread p s).cfg = s.cfg ∧ (grantThread p s).js = s.js ∧ (grantThread p s).pe = s.pe
      ∧ (grantThread p s).gc = s.gc ∧ (grantThread p s).eg = s.eg ∧ (grantThread p s).prs = s.prs
      ∧ (grantThread p s).jp = s.jp := by
  unfold grantThread
  simp

/-- The restart of a stopped pass (R36). -/
@[simp] theorem restartPass_frame (s : State) :
    (restartPass s).pending = s.pending ∧ (restartPass s).now = s.now ∧ (restartPass s).power = s.power
      ∧ (restartPass s).cfg = s.cfg ∧ (restartPass s).js = s.js ∧ (restartPass s).eg = s.eg
      ∧ (restartPass s).tu = s.tu ∧ (restartPass s).cli = s.cli ∧ (restartPass s).pva = s.pva
      ∧ (restartPass s).prs = s.prs ∧ (restartPass s).jp = s.jp := by
  unfold restartPass
  simp

/-- The Part Sequencer on a capture (R119, R125, R129). -/
@[simp] theorem afterCapture_frame (p : Purpose) (s : State) :
    (afterCapture p s).pending = s.pending ∧ (afterCapture p s).now = s.now
      ∧ (afterCapture p s).power = s.power ∧ (afterCapture p s).cfg = s.cfg ∧ (afterCapture p s).js = s.js
      ∧ (afterCapture p s).cli = s.cli := by
  unfold afterCapture
  split <;> simp

/-- A capture (R94). -/
@[simp] theorem capture_frame (s : State) :
    (capture s).pending = s.pending ∧ (capture s).now = s.now ∧ (capture s).power = s.power
      ∧ (capture s).cfg = s.cfg ∧ (capture s).js = s.js ∧ (capture s).cli = s.cli := by
  unfold capture
  dsimp only
  split <;> simp

/-- The entry to CAPTURE (R93). -/
@[simp] theorem enterCapture_frame (s : State) :
    (enterCapture s).pending = s.pending ∧ (enterCapture s).now = s.now ∧ (enterCapture s).power = s.power
      ∧ (enterCapture s).cfg = s.cfg ∧ (enterCapture s).js = s.js ∧ (enterCapture s).cli = s.cli := by
  unfold enterCapture
  split <;> simp

/-- The entry to FEED (R92). -/
@[simp] theorem enterFeed_frame (s : State) :
    (enterFeed s).pending = s.pending ∧ (enterFeed s).now = s.now ∧ (enterFeed s).power = s.power
      ∧ (enterFeed s).cfg = s.cfg ∧ (enterFeed s).js = s.js ∧ (enterFeed s).cli = s.cli := by
  unfold enterFeed
  split <;> simp

/-- The entry to JET (R91). -/
@[simp] theorem enterJet_frame (s : State) :
    (enterJet s).pending = s.pending ∧ (enterJet s).now = s.now ∧ (enterJet s).power = s.power
      ∧ (enterJet s).cfg = s.cfg ∧ (enterJet s).js = s.js ∧ (enterJet s).cli = s.cli := by
  unfold enterJet
  split <;> simp

/-- A failed attempt (R95). -/
@[simp] theorem failAttempt_frame (s : State) :
    (failAttempt s).pending = s.pending ∧ (failAttempt s).now = s.now ∧ (failAttempt s).power = s.power
      ∧ (failAttempt s).cfg = s.cfg ∧ (failAttempt s).js = s.js ∧ (failAttempt s).pe = s.pe
      ∧ (failAttempt s).gc = s.gc ∧ (failAttempt s).eg = s.eg ∧ (failAttempt s).ps = s.ps
      ∧ (failAttempt s).cli = s.cli ∧ (failAttempt s).pva = s.pva ∧ (failAttempt s).prs = s.prs
      ∧ (failAttempt s).jp = s.jp := by
  unfold failAttempt
  simp

/-- The Part Sequencer on a failed threading (R118, R125, R129). -/
@[simp] theorem afterFailure_frame (p : Purpose) (s : State) :
    (afterFailure p s).pending = s.pending ∧ (afterFailure p s).now = s.now
      ∧ (afterFailure p s).power = s.power ∧ (afterFailure p s).cfg = s.cfg ∧ (afterFailure p s).js = s.js
      ∧ (afterFailure p s).cli = s.cli := by
  unfold afterFailure
  dsimp only
  (repeat' split) <;> simp

/-- A failed threading (R96). -/
@[simp] theorem failThreading_frame (s : State) :
    (failThreading s).pending = s.pending ∧ (failThreading s).now = s.now ∧ (failThreading s).power = s.power
      ∧ (failThreading s).cfg = s.cfg ∧ (failThreading s).js = s.js ∧ (failThreading s).cli = s.cli := by
  unfold failThreading
  dsimp only
  split <;> simp

/-- A wire break on a pass (R36, R70). -/
@[simp] theorem breakPass_frame (s : State) :
    (breakPass s).pending = s.pending ∧ (breakPass s).now = s.now ∧ (breakPass s).power = s.power
      ∧ (breakPass s).cfg = s.cfg ∧ (breakPass s).js = s.js ∧ (breakPass s).tu = s.tu
      ∧ (breakPass s).ps = s.ps ∧ (breakPass s).cli = s.cli ∧ (breakPass s).pva = s.pva
      ∧ (breakPass s).prs = s.prs ∧ (breakPass s).jp = s.jp := by
  unfold breakPass
  simp

/-- The asking for a rethreading (R128). -/
@[simp] theorem askRethread_frame (p : Purpose) (s : State) :
    (askRethread p s).pending = s.pending ∧ (askRethread p s).now = s.now ∧ (askRethread p s).power = s.power
      ∧ (askRethread p s).cfg = s.cfg ∧ (askRethread p s).js = s.js ∧ (askRethread p s).pe = s.pe
      ∧ (askRethread p s).gc = s.gc ∧ (askRethread p s).eg = s.eg ∧ (askRethread p s).tu = s.tu
      ∧ (askRethread p s).cli = s.cli ∧ (askRethread p s).prs = s.prs ∧ (askRethread p s).jp = s.jp := by
  unfold askRethread
  split <;> simp

/-- A loss of wire (R128). -/
@[simp] theorem afterLoss_frame (s : State) :
    (afterLoss s).pending = s.pending ∧ (afterLoss s).now = s.now ∧ (afterLoss s).power = s.power
      ∧ (afterLoss s).cfg = s.cfg ∧ (afterLoss s).js = s.js := by
  unfold afterLoss
  split <;> simp

/-- The end of an unthread (R104). -/
@[simp] theorem afterUnthread_frame (s : State) :
    (afterUnthread s).pending = s.pending ∧ (afterUnthread s).now = s.now ∧ (afterUnthread s).power = s.power
      ∧ (afterUnthread s).cfg = s.cfg ∧ (afterUnthread s).js = s.js ∧ (afterUnthread s).gc = s.gc
      ∧ (afterUnthread s).eg = s.eg ∧ (afterUnthread s).tu = s.tu ∧ (afterUnthread s).cli = s.cli := by
  unfold afterUnthread
  split <;> simp

/-- The quiet count (R147). -/
@[simp] theorem updateQuiet_frame (s : State) :
    (updateQuiet s).pending = s.pending ∧ (updateQuiet s).now = s.now ∧ (updateQuiet s).power = s.power
      ∧ (updateQuiet s).cfg = s.cfg ∧ (updateQuiet s).js = s.js ∧ (updateQuiet s).pe = s.pe
      ∧ (updateQuiet s).gc = s.gc ∧ (updateQuiet s).eg = s.eg ∧ (updateQuiet s).tu = s.tu
      ∧ (updateQuiet s).ps = s.ps ∧ (updateQuiet s).pva = s.pva ∧ (updateQuiet s).prs = s.prs := by
  unfold updateQuiet
  dsimp only
  (repeat' split) <;> simp

/-- A pair found driven (R146). -/
@[simp] theorem noteDriven_frame (driven : Bool) (s : State) :
    (noteDriven driven s).pending = s.pending ∧ (noteDriven driven s).now = s.now
      ∧ (noteDriven driven s).power = s.power ∧ (noteDriven driven s).cfg = s.cfg
      ∧ (noteDriven driven s).js = s.js ∧ (noteDriven driven s).pe = s.pe ∧ (noteDriven driven s).gc = s.gc
      ∧ (noteDriven driven s).eg = s.eg ∧ (noteDriven driven s).tu = s.tu ∧ (noteDriven driven s).ps = s.ps
      ∧ (noteDriven driven s).pva = s.pva ∧ (noteDriven driven s).prs = s.prs
      ∧ (noteDriven driven s).jp = s.jp := by
  unfold noteDriven
  split <;> simp

/-- The frame of a slot in ACTIVE (R137, R145). -/
@[simp] theorem sendFrame_frame (driven : Bool) (s : State) :
    (sendFrame driven s).pending = s.pending ∧ (sendFrame driven s).now = s.now
      ∧ (sendFrame driven s).power = s.power ∧ (sendFrame driven s).cfg = s.cfg
      ∧ (sendFrame driven s).js = s.js ∧ (sendFrame driven s).pe = s.pe ∧ (sendFrame driven s).gc = s.gc
      ∧ (sendFrame driven s).eg = s.eg ∧ (sendFrame driven s).tu = s.tu ∧ (sendFrame driven s).ps = s.ps
      ∧ (sendFrame driven s).pva = s.pva ∧ (sendFrame driven s).prs = s.prs
      ∧ (sendFrame driven s).jp = s.jp := by
  unfold sendFrame
  split <;> simp

/-- The frame of a slot in any line mode (R137). -/
@[simp] theorem slotFrame_frame (driven : Bool) (s : State) :
    (slotFrame driven s).pending = s.pending ∧ (slotFrame driven s).now = s.now
      ∧ (slotFrame driven s).power = s.power ∧ (slotFrame driven s).cfg = s.cfg
      ∧ (slotFrame driven s).js = s.js ∧ (slotFrame driven s).pe = s.pe ∧ (slotFrame driven s).gc = s.gc
      ∧ (slotFrame driven s).eg = s.eg ∧ (slotFrame driven s).tu = s.tu ∧ (slotFrame driven s).ps = s.ps
      ∧ (slotFrame driven s).prs = s.prs ∧ (slotFrame driven s).jp = s.jp := by
  unfold slotFrame
  (repeat' split) <;> simp

/-- The slot timer moved on (R136). -/
@[simp] theorem nextRound_frame (s : State) :
    (nextRound s).pending = s.pending ∧ (nextRound s).now = s.now ∧ (nextRound s).power = s.power
      ∧ (nextRound s).cfg = s.cfg ∧ (nextRound s).js = s.js ∧ (nextRound s).pe = s.pe
      ∧ (nextRound s).gc = s.gc ∧ (nextRound s).eg = s.eg ∧ (nextRound s).tu = s.tu
      ∧ (nextRound s).ps = s.ps ∧ (nextRound s).pva = s.pva ∧ (nextRound s).prs = s.prs
      ∧ (nextRound s).jp = s.jp := by
  unfold nextRound
  simp

/-- A valid frame (R142, R154). -/
@[simp] theorem takeValid_frame (f : Frame) (s : State) :
    (takeValid f s).pending = s.pending ∧ (takeValid f s).now = s.now ∧ (takeValid f s).power = s.power
      ∧ (takeValid f s).cfg = s.cfg ∧ (takeValid f s).js = s.js ∧ (takeValid f s).pe = s.pe
      ∧ (takeValid f s).gc = s.gc ∧ (takeValid f s).eg = s.eg ∧ (takeValid f s).tu = s.tu
      ∧ (takeValid f s).ps = s.ps ∧ (takeValid f s).prs = s.prs := by
  unfold takeValid
  dsimp only
  split <;> simp

/-- A frame of good form (R142). -/
@[simp] theorem judgeFrame_frame (f : Frame) (s : State) :
    (judgeFrame f s).pending = s.pending ∧ (judgeFrame f s).now = s.now ∧ (judgeFrame f s).power = s.power
      ∧ (judgeFrame f s).cfg = s.cfg ∧ (judgeFrame f s).js = s.js ∧ (judgeFrame f s).pe = s.pe
      ∧ (judgeFrame f s).gc = s.gc ∧ (judgeFrame f s).eg = s.eg ∧ (judgeFrame f s).tu = s.tu
      ∧ (judgeFrame f s).ps = s.ps ∧ (judgeFrame f s).prs = s.prs := by
  unfold judgeFrame
  (repeat' split) <;> simp

/-- The end of a burst (R146). -/
@[simp] theorem burstEnds_frame (s : State) :
    (burstEnds s).pending = s.pending ∧ (burstEnds s).now = s.now ∧ (burstEnds s).power = s.power
      ∧ (burstEnds s).cfg = s.cfg ∧ (burstEnds s).js = s.js ∧ (burstEnds s).pe = s.pe
      ∧ (burstEnds s).gc = s.gc ∧ (burstEnds s).eg = s.eg ∧ (burstEnds s).tu = s.tu
      ∧ (burstEnds s).ps = s.ps ∧ (burstEnds s).pva = s.pva ∧ (burstEnds s).prs = s.prs
      ∧ (burstEnds s).jp = s.jp := by
  unfold burstEnds
  split <;> simp

/-- A burst judged (R141). -/
@[simp] theorem judgeBurst_frame (b : Burst) (s : State) :
    (judgeBurst b s).pending = s.pending ∧ (judgeBurst b s).now = s.now ∧ (judgeBurst b s).power = s.power
      ∧ (judgeBurst b s).cfg = s.cfg ∧ (judgeBurst b s).js = s.js ∧ (judgeBurst b s).pe = s.pe
      ∧ (judgeBurst b s).gc = s.gc ∧ (judgeBurst b s).eg = s.eg ∧ (judgeBurst b s).tu = s.tu
      ∧ (judgeBurst b s).ps = s.ps ∧ (judgeBurst b s).prs = s.prs := by
  unfold judgeBurst
  (repeat' split) <;> simp

end Sys2Proof.Machine
end

