-- ==== Sys2Proof/Laws/Port.lean ====
section
/-! SUPPORT. What an edge of JCLK does, mode by mode: the one-shot edges and the ORDER edge in each condition, and the
shift; and how a packed word reads. -/

namespace Sys2Proof.Machine

/-- The state a one-shot action finds: mode sampled, JDAT released, marker set (R196). -/
def marked (m : PortMode) (s : State) : State :=
  s.setJp { s.jp with lastMode := m, jdat := none, marker := true }

theorem portAwake_iff (s : State) : portAwake s = true ↔ s.power = .starting ∨ s.power = .ready := by
  simp [portAwake]

theorem oneShot_clear {m : PortMode} {act : State → State} {s : State} (h : s.jp.marker = false) :
    oneShot m act s = act (marked m s) := by
  simp [oneShot, sampleEdge, marked, h]

theorem oneShot_set {m : PortMode} {act : State → State} {s : State} (h : s.jp.marker = true) :
    oneShot m act s = sampleEdge m s := by
  simp [oneShot, sampleEdge, h]

/-- An ORDER edge that is taken answers by its rule (R202). -/
theorem orderEdge_ready {code : Nat} {rule : State → Answer × State} {s : State} (hp : s.power = .ready)
    (hm : s.jp.marker = false) (hc : orderCode s.jp.word = code) :
    orderEdge code rule s = recordAnswer (rule (marked .order s)).1 (rule (marked .order s)).2 := by
  have hq : (marked .order s).power = .ready := hp
  rw [orderEdge, if_pos ⟨by simp [portAwake, hp], hc⟩, oneShot_clear hm, answered, if_pos hq]

/-- An ORDER edge before the start-up completion is refused (R202). -/
theorem orderEdge_starting {code : Nat} {rule : State → Answer × State} {s : State} (hp : s.power = .starting)
    (hm : s.jp.marker = false) (hc : orderCode s.jp.word = code) :
    orderEdge code rule s = recordAnswer .refusedStarting (marked .order s) := by
  have hq : ¬ (marked .order s).power = .ready := by show ¬ s.power = .ready; rw [hp]; decide
  rw [orderEdge, if_pos ⟨by simp [portAwake, hp], hc⟩, oneShot_clear hm, answered, if_neg hq]

/-- An ORDER edge that finds the marker set does nothing but sample (R196). -/
theorem orderEdge_set {code : Nat} {rule : State → Answer × State} {s : State} (ha : portAwake s = true)
    (hm : s.jp.marker = true) (hc : orderCode s.jp.word = code) :
    orderEdge code rule s = sampleEdge .order s := by
  rw [orderEdge, if_pos ⟨ha, hc⟩, oneShot_set hm]

/-- With another code in the port word the row changes nothing (log 1). -/
theorem orderEdge_other {code : Nat} {rule : State → Answer × State} {s : State} (hc : orderCode s.jp.word ≠ code) :
    orderEdge code rule s = s := by
  rw [orderEdge, if_neg (fun h => hc h.2)]

theorem edge_awake {act : State → State} {s : State} (h : portAwake s = true) : edge act s = act s := by
  rw [edge, if_pos h]

/-! ## Packed words -/

/-- What `pack` sums. -/
def packSum (fields : List (Nat × Nat × Nat)) : Nat :=
  fields.foldr (fun f acc => f.2.2 % 2 ^ f.2.1 * 2 ^ f.1 + acc) 0

/-- Fields in rising order from bit `lo` on, none reaching into the next, all within 32 bits. -/
def laidOut : Nat → List (Nat × Nat × Nat) → Bool
  | lo, [] => decide (lo ≤ 32)
  | lo, f :: rest => decide (lo ≤ f.1) && laidOut (f.1 + f.2.1) rest

theorem laidOut_from {lo : Nat} {r : List (Nat × Nat × Nat)} (h : laidOut lo r = true) :
    lo ≤ 32 ∧ (∀ f ∈ r, lo ≤ f.1 ∧ f.1 + f.2.1 ≤ 32) ∧ packSum r < 2 ^ 32 ∧ ∃ q, packSum r = 2 ^ lo * q := by
  induction r generalizing lo with
  | nil => exact ⟨of_decide_eq_true h, (fun _ hf => nomatch hf), Nat.two_pow_pos _, 0, rfl⟩
  | cons g r ih =>
    simp only [laidOut, Bool.and_eq_true, decide_eq_true_eq] at h
    obtain ⟨h1, h2⟩ := h
    obtain ⟨a, b, c, q, d⟩ := ih h2
    have hs : packSum (g :: r) = g.2.2 % 2 ^ g.2.1 * 2 ^ g.1 + packSum r := rfl
    have hv : g.2.2 % 2 ^ g.2.1 < 2 ^ g.2.1 := Nat.mod_lt _ (Nat.two_pow_pos _)
    have hp : (2 : Nat) ^ (g.1 + g.2.1) = 2 ^ g.2.1 * 2 ^ g.1 := by rw [Nat.pow_add, Nat.mul_comm]
    have hv2 : g.2.2 % 2 ^ g.2.1 * 2 ^ g.1 < 2 ^ (g.1 + g.2.1) := by
      rw [hp]; exact Nat.mul_lt_mul_of_pos_right hv (Nat.two_pow_pos _)
    have h32 : (2 : Nat) ^ 32 = 2 ^ (g.1 + g.2.1) * 2 ^ (32 - (g.1 + g.2.1)) := by
      rw [← Nat.pow_add]; congr 1; omega
    refine ⟨by omega, ?_, ?_, ?_⟩
    · intro f hf
      rcases List.mem_cons.mp hf with rfl | hf
      · exact ⟨h1, a⟩
      · have := b f hf; omega
    · rw [hs, d, h32]
      rw [d, h32] at c
      have hq : q < 2 ^ (32 - (g.1 + g.2.1)) := Nat.lt_of_mul_lt_mul_left c
      calc _ < 2 ^ (g.1 + g.2.1) + 2 ^ (g.1 + g.2.1) * q := by omega
        _ = 2 ^ (g.1 + g.2.1) * (q + 1) := by rw [Nat.mul_add, Nat.mul_one, Nat.add_comm]
        _ ≤ _ := Nat.mul_le_mul_left _ hq
    · refine ⟨g.2.2 % 2 ^ g.2.1 * 2 ^ (g.1 - lo) + 2 ^ (g.1 + g.2.1 - lo) * q, ?_⟩
      rw [hs, d, Nat.mul_add, ← Nat.mul_assoc, ← Nat.mul_assoc, Nat.mul_comm (2 ^ lo) (_ % _), Nat.mul_assoc,
        ← Nat.pow_add, ← Nat.pow_add]
      congr 3 <;> omega

theorem packSum_bit {lo : Nat} {r : List (Nat × Nat × Nat)} (h : laidOut lo r = true) :
    (∀ f ∈ r, ∀ i, i < f.2.1 → (packSum r).testBit (f.1 + i) = f.2.2.testBit i)
    ∧ ∀ b, (∀ f ∈ r, b < f.1 ∨ f.1 + f.2.1 ≤ b) → (packSum r).testBit b = false := by
  induction r generalizing lo with
  | nil => exact ⟨fun _ hf => (nomatch hf), fun b _ => by simp [packSum]⟩
  | cons g r ih =>
    simp only [laidOut, Bool.and_eq_true, decide_eq_true_eq] at h
    obtain ⟨h1, h2⟩ := h
    obtain ⟨_, hb, _, q, hq⟩ := laidOut_from h2
    obtain ⟨ih1, ih2⟩ := ih h2
    have hv2 : 2 ^ g.1 * (g.2.2 % 2 ^ g.2.1) < 2 ^ (g.1 + g.2.1) := by
      rw [Nat.pow_add]
      exact Nat.mul_lt_mul_of_pos_left (Nat.mod_lt _ (Nat.two_pow_pos _)) (Nat.two_pow_pos _)
    have hs (b : Nat) : (packSum (g :: r)).testBit b
        = if b < g.1 + g.2.1 then (2 ^ g.1 * (g.2.2 % 2 ^ g.2.1)).testBit b else (packSum r).testBit b := by
      have : packSum (g :: r) = 2 ^ (g.1 + g.2.1) * q + 2 ^ g.1 * (g.2.2 % 2 ^ g.2.1) := by
        rw [← hq, Nat.add_comm, Nat.mul_comm (2 ^ g.1)]; rfl
      rw [this, Nat.testBit_two_pow_mul_add _ hv2]
      split
      · rfl
      · rename_i hlt
        rw [hq, Nat.testBit_two_pow_mul]
        simp [Nat.le_of_not_lt hlt]
    refine ⟨fun f hf i hi => ?_, fun b hbf => ?_⟩
    · rw [hs]
      rcases List.mem_cons.mp hf with rfl | hf
      · rw [if_pos (by omega), Nat.testBit_two_pow_mul]
        simp [Nat.testBit_mod_two_pow, hi]
      · have := (hb f hf).1
        rw [if_neg (by omega)]; exact ih1 f hf i hi
    · rw [hs]
      split
      · rename_i hlt
        have : b < g.1 := by rcases hbf g (List.mem_cons_self ..) with h | h <;> omega
        rw [Nat.testBit_two_pow_mul]
        simp; omega
      · exact ih2 b fun f hf => hbf f (List.mem_cons_of_mem _ hf)

/-- A packed word reads each of its fields in its width. -/
theorem pack_field {r : List (Nat × Nat × Nat)} (h : laidOut 0 r = true) {f : Nat × Nat × Nat} (hf : f ∈ r) :
    field (pack r) f.1 f.2.1 = f.2.2 % 2 ^ f.2.1 := by
  obtain ⟨_, hb, hlt, _⟩ := laidOut_from h
  refine Nat.eq_of_testBit_eq fun i => ?_
  have hp : (pack r).toNat = packSum r := by
    show (BitVec.ofNat 32 (packSum r)).toNat = _
    rw [BitVec.toNat_ofNat, Nat.mod_eq_of_lt hlt]
  rw [field, BitVec.extractLsb'_toNat, hp, Nat.testBit_mod_two_pow, Nat.testBit_mod_two_pow, Nat.testBit_shiftRight]
  by_cases hi : i < f.2.1
  · simp [hi, (packSum_bit h).1 f hf i hi]
  · simp [hi]

/-- A packed word reads 0 outside its fields. -/
theorem pack_outside {r : List (Nat × Nat × Nat)} (h : laidOut 0 r = true) {b : Nat}
    (hb : ∀ f ∈ r, b < f.1 ∨ f.1 + f.2.1 ≤ b) : (pack r).getLsbD b = false := by
  have hlt := (laidOut_from h).2.2.1
  have hp : (pack r).toNat = packSum r := by
    show (BitVec.ofNat 32 (packSum r)).toNat = _
    rw [BitVec.toNat_ofNat, Nat.mod_eq_of_lt hlt]
  rw [← BitVec.testBit_toNat, hp]
  exact (packSum_bit h).2 b hb

end Sys2Proof.Machine
end

