-- ==== Sys2Proof/WellFormed.lean ====
section
/-! DEFINITION. Which commands are well formed. An operand's range is its type's but for a burst, which
lasts some time: the pair becomes driven before it is released (R135). -/

namespace Sys2Proof

/-- A burst holds a driven half-bit at least (R135). -/
def Burst.wellFormed (b : Burst) : Bool := !b.halves.isEmpty

/-- A command's operands are in their ranges. -/
def Instr.wellFormed : Instr → Bool
  | .frameReceived _ b => b.wellFormed
  | .powerOnReset | .warmReset | .resetRelease _ | .startUpCompletion _ | .put | .get _ | .peek | .arm
  | .armCheckFailed | .armQueueWaitEnd | .armSuccess | .start | .halt | .resume | .skipPart | .abort
  | .setPositionX | .setPositionY | .newPlate | .newPlateFeedResume | .writeConfig | .clearFlags
  | .setAttnMask | .clearCounters | .undefinedOrder | .traverseStep | .forwardCutStep | .gapSample _
  | .retractStep | .replayStep | .stallTimerExpiry | .severTimerExpiry | .annealTimerExpiry _
  | .jetOkRise _ | .jetTimeout | .pickupRise | .feedTimeout | .jetOkFall | .wireOkRise | .captureTimeout
  | .withdrawEnd | .wireOkFall | .unthreadTimerExpiry | .recordWaitEnd | .ownSlotArrival _ _
  | .frameSent _ | .readbackMismatch | .lineStuckTimeout | .stuckClear | .threadWarningExpiry
  | .eraseEnd | .writeEnd _ | .addrIn _ | .wordIn _ | .wordOut | .hold | .powerLoss => true

end Sys2Proof
end

