-- ==== Sys2Proof/Tests/Slice0.lean ====
section
/-! SUPPORT. Tests: the well-formedness smoke, the manual's worked examples one step at a time, and for every
statement with hypotheses a witness that they can be met together. -/

namespace Sys2Proof.Tests

open Sys2Proof.Machine Sys2Proof.Statements

set_option Elab.async false

/-! ## States -/

/-- The state a result holds, or another where it holds none. -/
def after (r : Result) (s : State) : State :=
  match r with
  | .next t => t
  | .fault _ => s
  | .refused _ => s

/-- What a command leaves. -/
def run (c : Instr) (s : State) : State := after (exec c s) s

/-- Configuration words: the cell of 11_a_plate_worked_through.md with the 4 by 4 grid of 01_the_job_tables.md. -/
def words (k : Nat) : Half :=
  [0, 0x0002, 0x4411, 0x1476, 180, 400, 780, 0x1E08, 0x2205, 0x050A, 0x0214, 300, 300, 1000, 10, 0x8001].getD k 0

def cell : Params := paramsOfWords words

/-- The one-part job of 01_the_job_tables.md. -/
def jobWords : Memory Word :=
  [ (0x0000, 4117), (0x0001, 1), (0x0002, 3), (0x0003, 3)
  , (0x0040, 0x0BB8C050), (0x0041, 20000), (0x0042, 10000), (0x0043, 0x00030000), (0x0044, 0x00030000)
  , (0x0200, 0x01000003), (0x0201, 8), (0x0202, 7), (0x0203, 0x00010000), (0x0204, 0x02000001)
  , (0x0205, 0x000205DC)
  , (0x1000, 20005), (0x1001, 10000), (0x1004, 0x02004E20), (0x1005, 10005), (0x1006, 20000), (0x1007, 10000)
  , (0x1008, 20000), (0x1009, 10000) ]

/-- The job put, plate 4117 loaded, part 0 UNCUT, start-up complete, station 0 of 2 in ACTIVE. -/
def idle : State :=
  { State.reset with
      power := .ready, cfg := cell, js := { JobStore.reset with mem := jobWords }
      cli := { CellLine.reset with mode := .active, nextSlot := some 128, heard := true }
      prs := { RecordStore.reset with nv := [(0, 1), (64, 4117)], announced := 4117 } }

/-- The same after its ARM. -/
def armed : State :=
  { idle with
      js := { idle.js with lengths := [(0, 5), (1, 10), (2, 5)], holds := [(0, (20002, 10004))] }
      ps := { idle.ps with job := .armed, held := [(0, .state .uncut)] } }

/-- An order's word in the port. -/
def ordered (code arg : Nat) (s : State) : State :=
  { s with jp := { s.jp with word := BitVec.ofNat 32 (code * 16777216 + arg) } }

/-- Part 0 current in RUNNING, with what the head does. -/
def head (h : HeadState) (a : Activity) (s : State) : State :=
  { s with ps := { s.ps with job := .running, phase := .rough, current := some 0, head := h, activity := a } }

/-- The rough pass of part 0 at a position and progress. -/
def cutting (x y : Int) (seg off count : Nat) (ptr : Option Nat) : State :=
  let s := head .cutting .passing armed
  { s with
      tu := { s.tu with stage := .threaded, wireOk := true }
      eg := { s.eg with primary := 12 }
      gc := { s.gc with acc := 6240, cls := .normal, mode := .feeding, limit := 3000 }
      pe := { s.pe with
        engine := .pass, posX := x, posY := y, passKind := .rough, sub := some .run, seg := seg, off := off
        count := count, markPtr := ptr } }

/-- The release pass of part 0. -/
def releasing (x y : Int) (seg off count : Nat) (ptr : Option Nat) : State :=
  let s := cutting x y seg off count ptr
  { s with pe := { s.pe with passKind := .release }, ps := { s.ps with head := .releasing } }

/-- The head at its hold point, waiting for its release. -/
def holding : State :=
  let s := head .waitRelease .waitRelease armed
  { s with
      tu := { s.tu with stage := .threaded, wireOk := true }, pe := { s.pe with engine := .standby }
      pva := { s.pva with intent := newIntent .release 0 } }

/-- The head waiting for the jet, its intent announced with age 0. -/
def waiting : State :=
  let s := head .waitThread (.waitThread .startHole) armed
  { s with pva := { s.pva with
      intent := { kind := .thread, ageToSend := 1, lastAge := some 0, firstAt := some 0, warnTimer := some 0 } } }

/-- A threading of part 0 at its start hole, in a stage. -/
def threading (st : Stage) : State :=
  let s := head .threading (.threading .startHole) armed
  { s with tu := { s.tu with stage := st, mode := .startHole, timer := some 0 } }

/-- The same job halted. -/
def stopped (s : State) : State :=
  { s with ps := { s.ps with job := .halted, reason := .host, headBeforeHalt := s.ps.head, head := .parked } }

/-- Two steps along x, the newest first, in the log. -/
def logged (log redo : List PathStep) (m : GapMode) (c : GapClass) (s : State) : State :=
  { s with gc := { s.gc with log := log, redo := redo, mode := m, cls := c }
           pe := { s.pe with sub := if m = .feeding then some .run else some .gap } }

def xUp : PathStep := ⟨.x, true⟩
def yUp : PathStep := ⟨.y, true⟩

/-- A full queue, for words 10 to 17. -/
def fullQueue : List QueueEntry := (List.range 8).map fun k => { word := k + 10, value := 1, mark := false }

def queueing (q : List QueueEntry) (st : UpdateStage) (wr : Half) (retried : Bool) (s : State) : State :=
  { s with prs := { s.prs with queue := q, stage := st, writing := wr, retried := retried } }

/-- The frame of 07_the_cell_line.md. -/
def sampleFrame : Frame :=
  { station := 2, head := 6, zone := 5, age := 3, plate := 4117, count := 1, lastZone := 5, lastValid := true }

def burstOf (f : Frame) : Burst := { halves := manchester f.bits, ownDrove := false }

def frameFrom (n : BitVec 4) : Burst := burstOf { sampleFrame with station := n }

/-! ## Well-formedness -/

theorem test_wf_frame : (Instr.frameReceived 0 (burstOf sampleFrame)).wellFormed = true := by decide
theorem test_wf_empty_burst_refused :
    (Instr.frameReceived 0 { halves := [], ownDrove := false }).wellFormed = false := by decide

/-! ## The queue and the words -/

theorem test_idle_step_ticks : step State.reset = .next { State.reset with now := 1 } := by rfl
theorem test_front_runs : step { State.reset with pending := [.resetRelease 3, .hold] }
    = .next { State.reset with
        pending := [.hold], power := .starting, cli := { CellLine.reset with strap := 3, mode := .off } } := by rfl
theorem test_no_word_spells_a_command : decodeTableWord 8 0 = none := rfl
theorem test_word_leaves_state : State.withFetchWord State.reset 8 0 = State.reset := rfl

/-! ## Stepping: the tables of 02_path_stepping.md -/

theorem test_line_table :
    [(100, 200), (101, 200), (101, 201), (102, 201), (102, 202), (103, 202)].map
        (fun p : Int × Int => lineStep 100 200 103 202 p.1 p.2)
      = [some xUp, some yUp, some xUp, some yUp, some xUp, none] := by decide +kernel
theorem test_arc_table :
    [(5, 0), (5, 1), (5, 2), (4, 2), (4, 3), (3, 3), (3, 4), (2, 4), (2, 5), (1, 5), (0, 5)].map
        (fun p : Int × Int => arcStep 0 0 5 0 0 5 p.1 p.2)
      = [ some yUp, some yUp, some ⟨.x, false⟩, some yUp, some ⟨.x, false⟩, some yUp, some ⟨.x, false⟩, some yUp
        , some ⟨.x, false⟩, some ⟨.x, false⟩, none ] := by decide +kernel

/-! ## ARM: the examples of 01_the_job_tables.md -/

def armResult (s : State) : ArmRun × Memory Nat × Memory (Int × Int) :=
  let t := run .arm (ordered orderArm 0 s)
  (t.js.arm, t.js.lengths, t.js.holds)

/-- The idle state with some words of the job changed. -/
def changed (ws : List (Nat × Word)) : State :=
  { idle with js := { idle.js with
      mem := ws.foldl (fun m w => Memory.write 0#32 w.1 w.2 m) idle.js.mem } }

theorem test_arm_passes :
    armResult idle = (.handed, [(0, 5), (1, 10), (2, 5)], [(0, (20002, 10004))]) := by decide +kernel
theorem test_arm_fails :
    [ (armResult { idle with prs := { idle.prs with nv := [(0, 1)] } }).1
    , (armResult (changed [(1, 2), (0x45, 0x0BB8C050), (0x46, 20000), (0x47, 10000), (0x48, 0x00010002),
        (0x49, 0x00010002)])).1
    , (armResult (changed [(0x1004, 0x01004E20)])).1, (armResult (changed [(0x1005, 10007)])).1
    , (armResult (changed [(0x0202, 10)])).1, (armResult (changed [(0x0200, 0x01000000)])).1
    , (armResult (changed [(0x1004, 0x01004E20), (0x0202, 10)])).1 ]
    = [ .failing .noPlate 0, .failing .badPart 1, .failing .badArc 1, .failing .badArc 1, .failing .badMark 1
      , .failing .badMark 0, .failing .badArc 1 ] := by decide +kernel

/-! ## The gap: the table of 03_gap_control_and_retract.md -/

/-- Gf, F and Feff after a sample, with Eprim 12 and Eact 8. -/
def gapRow (a : Nat) (v : BitVec 10) : Nat × Nat × Nat × Nat :=
  let s : State := { cutting 0 0 0 0 0 none with cfg := { cell with eovr := 8 } }
  let t := run (.gapSample v) { s with gc := { s.gc with acc := a }, eg := { primary := 12, recovery := 9 } }
  (t.gc.acc, gapFiltered t.gc, unscaledFeed t, effectiveFeed t)

theorem test_gap_table :
    [gapRow 2400 340, gapRow 2440 0, gapRow 2135 0, gapRow 1869 0, gapRow 1636 0, gapRow 1432 500]
      = [ (2440, 305, 1704, 1136), (2135, 266, 1172, 781), (1869, 233, 722, 481), (1636, 204, 327, 218)
        , (1432, 179, 0, 0), (1753, 219, 531, 354) ] := by decide +kernel

/-! ## Cutting: the retract of 02_path_stepping.md -/

/-- Position, progress, count and pointer. -/
def place (s : State) : Int × Int × Nat × Nat × Nat × Option Nat :=
  (s.pe.posX, s.pe.posY, s.pe.seg, s.pe.off, s.pe.count, s.pe.markPtr)

theorem test_step_three_fires_mark :
    let t := run .forwardCutStep (cutting 20002 10000 0 2 2 (some 0))
    place t = (20003, 10000, 0, 3, 3, some 1) ∧ t.eg.primary = 8 ∧ t.gc.log = [xUp] := by decide +kernel
theorem test_step_five_enters_segment :
    place (run .forwardCutStep (cutting 20004 10000 0 4 4 (some 1))) = (20005, 10000, 1, 0, 5, some 1) := by
  decide +kernel
theorem test_hold_point :
    let t := run .forwardCutStep (cutting 20003 10004 1 6 11 (some 1))
    place t = (20002, 10004, 1, 7, 12, some 2) ∧ t.pe.engine = .standby ∧ t.ps.head = .waitRelease
      ∧ t.pva.intent.kind = .release := by decide +kernel
theorem test_retract_borrows :
    let t := run .retractStep (logged [xUp, xUp] [yUp, yUp] .retracting .short (cutting 20005 10000 1 0 5 (some 1)))
    place t = (20004, 10000, 0, 4, 4, some 1) ∧ t.gc.redo = [xUp, yUp, yUp] := by decide +kernel
theorem test_replay_crosses :
    let t := run .replayStep (logged [xUp] [xUp, yUp, yUp] .replaying .normal (cutting 20004 10000 0 4 4 (some 1)))
    place t = (20005, 10000, 1, 0, 5, some 1) ∧ t.gc.redo = [yUp, yUp] ∧ t.gc.mode = .replaying := by decide +kernel

/-! ## The line -/

/-- The check code of the nine characters 1 to 9, each of eight bits. -/
theorem test_check_code :
    checkCode ((List.range 9).flatMap fun k => msbFirst (BitVec.ofNat 8 (k + 49))) = 0x29B1#16 := by decide +kernel
theorem test_frame_bits :
    sampleFrame.bits.take 57 = Config.preamble ++
      ([0,0,1,0, 0,1,1,0, 0,0,0,1,0,1, 0,0,1,1, 0,0,0,1,0,0,0,0,0,0,0,1,0,1,0,1, 0,0,0,0,0,0,0,1, 0,0,0,1,0,1, 1].map
        fun b : Nat => decide (b = 1)) := by decide +kernel
theorem test_frame_of_bits : frameOfBits sampleFrame.bits = sampleFrame := by decide +kernel
/-- A 1 is positive then negative, a 0 negative then positive; a bit with no middle transition is a violation. -/
theorem test_manchester : manchester [true, false] = [true, false, false, true]
    ∧ decodeHalves [true, false, false, true, true, true] = [some true, some false, none] := by decide
/-- The second and the tenth bit of a frame begun at instant 128: the preamble's 0 and the station's 0. -/
theorem test_pair_drive :
    let s := run (.ownSlotArrival 128 false) idle
    [128, 129, 137].map (fun n => pairDrive { s with now := n })
      = [some (true, false), some (false, true), some (false, true)] ∧ pairDrive idle = none := by decide +kernel
/-- A burst ending at the instant of the own-slot arrival that began a sending is taken; a later one is not. -/
theorem test_burst_at_own_slot :
    let s := run (.ownSlotArrival 128 false) idle
    ((run (.frameReceived 128 (frameFrom 1)) s).pva.peer 1).live = .fresh
      ∧ (run (.frameReceived 128 (frameFrom 1)) s).cli.sending.isSome = true
      ∧ run (.frameReceived 129 (frameFrom 1)) s = s := by decide +kernel
/-- The stuck timer runs from a read-back mismatch, and the pair's release stops it. -/
theorem test_stuck_timer :
    let s := run .readbackMismatch (run (.ownSlotArrival 128 false) idle)
    s.cli.stuckTimer = some 128
      ∧ (run (.frameReceived 300 { halves := [true], ownDrove := true }) s).cli.stuckTimer = none
      ∧ (run (.frameReceived 300 { halves := [true], ownDrove := true }) s).cli.releasedAt = some 300 := by
  decide +kernel

/-! ## Peers: the table of 08_peer_view_and_admission.md -/

/-- Last, cumulative, attributed and errors after a frame from station 1 over an entry. -/
def heardRow (p : Peer) (count : BitVec 8) (zone : BitVec 6) : BitVec 8 × Nat × Nat × Nat :=
  let v := PeerView.takeFrame 4117
    { sampleFrame with station := 1, count := count, lastZone := zone } { PeerView.reset with peers := [(1, p)] }
  ((v.peer 1).last, (v.peer 1).cumulative, (v.peer 1).attributed, v.errors)

def entry (live : Liveness) (last : BitVec 8) (cum att : Nat) : Peer :=
  { Peer.never with live := live, plate := 4117, last := last, cumulative := cum, attributed := att }

theorem test_release_counts :
    [heardRow Peer.never 0 0, heardRow (entry .fresh 0 0 0) 1 5, heardRow (entry .fresh 1 1 1) 2 6,
      heardRow (entry .absent 9 8 7) 3 5, heardRow (entry .stale 3 3 0) 2 5]
      = [(0, 0, 0, 0), (1, 1, 1, 0), (2, 2, 2, 0), (3, 3, 0, 0), (2, 3, 0, 1)] := by decide +kernel

/-! ## Resets and the end of a job -/

/-- A warm reset, as an ABORT, finishes and counts a retract pulse already begun. -/
theorem test_begun_pulse_counted :
    let s := logged [xUp] [] .retracting .short (cutting 20001 10000 0 1 1 (some 0))
    let asked : State := { s with gc := { s.gc with asked := true } }
    place (run .warmReset asked) = (20000, 10000, 0, 0, 0, some 0)
      ∧ (run .abort (ordered orderAbort 0 asked)).pe.posX = 20000 := by decide +kernel
/-- In DONE no part state is held. -/
theorem test_done_holds_nothing : (completePhase armed).ps.held = [] ∧ (completePhase armed).ps.job = .done := by
  decide +kernel

/-! ## Start-up -/

/-- A new EC-64: every word reads 0, so the fields are clamped, CellSize 1 gives SOLO, and the factory thresholds
stand. -/
theorem test_new_machine :
    let t := run (.startUpCompletion 0) { State.reset with power := .starting }
    t.power = .ready ∧ t.cli.mode = .solo ∧ t.jp.flags = 0x2000 ∧ t.cfg.ts = 180 ∧ t.cfg.gt = 400
      ∧ t.cfg.tOpen = 780 ∧ t.cfg.xmax = 1 ∧ t.cfg.retractMax = 8 := by decide +kernel

/-! ## The port -/

/-- The status word of the armed state: job 2, start-up complete, line mode ACTIVE. -/
theorem test_status_word : statusWord armed = 0x08000802 := by decide +kernel
theorem test_snapshot_latched :
    let s := cutting 20005 10000 1 0 5 (some 1)
    (run (.get false) { s with jp := { s.jp with addr := 0xF001 } }).jp.word = 0x00001080
      ∧ (run (.get false) { s with jp := { s.jp with addr := 0xF004 } }).jp.word = 0
      ∧ (run (.get false) { s with jp := { s.jp with addr := 0xF006 } }).jp.word = 20005 := by decide +kernel

/-! ## Witnesses: each statement's hypotheses, clause by clause, met together -/

/-- The state with a field of its job, its address or its array set. -/
def inJob (j : JobState) (s : State) : State := { s with ps := { s.ps with job := j } }
def atAddress (a : Half) (s : State) : State := { s with jp := { s.jp with addr := a } }
def starting : State := { State.reset with power := .starting }
def feeding (k : Nat) (s : State) : State := { s with prs := { s.prs with feed := some k } }
def withArm (a : ArmRun) : State :=
  let s := inJob .arming idle
  { s with js := { s.js with arm := a } }
def doing (a : Activity) (s : State) : State := { s with ps := { s.ps with activity := a } }
/-- A record wait for part 0. -/
def waitingRecord (k : Follow) (joined : Bool) : Activity :=
  .recordWait { part := 0, state := .cutting, zone := 5, defer := false } k joined
def inLine (m : LineMode) (s : State) : State := { s with cli := { s.cli with mode := m } }
def sending (live : Bool) : State :=
  { waiting with cli := { waiting.cli with sending := some { frame := sampleFrame, live := live } } }

theorem witness_Resets : State.reset.power ≠ .off := by decide
theorem witness_ResetRelease : State.reset.power = .held := by decide
theorem witness_StartUpCompletion : starting.power = .starting ∧ (run (.startUpCompletion 0)
    { starting with prs := { RecordStore.reset with nv := [(65, 2)] }
                    cli := { CellLine.reset with strap := 2 } }).cli.mode = .noSlot := by decide +kernel
/-- The configuration of the cell as stored. -/
def stored : Memory Half := (List.range 15).map fun k => (65 + k, words (k + 1))

/-- LISTEN, NO_SLOT and SOLO with their first own slots; thresholds out of order; a field above its range and below. -/
theorem witness_StartUp_starts :
    let up (nv : Memory Half) (strap : BitVec 4) : State :=
      run (.startUpCompletion 7) { starting with
        prs := { RecordStore.reset with nv := nv }, cli := { CellLine.reset with strap := strap } }
    [up stored 0, up stored 2, up [] 0].map (fun t => (t.cli.mode, t.cli.nextSlot, t.jp.flags))
      = [(.listen, some (7 + 2 * 256), 0), (.noSlot, some (7 + 256), 0x0800), (.solo, some (7 + 128), 0x2000)]
    ∧ (let t := up (Memory.write 0 68 100 (Memory.write 0 69 780 stored)) 0
       (t.cfg.ts, t.cfg.gt, t.jp.flags) = (180, 400, 0x2000))
    ∧ [up (Memory.write 0 71 0x1E81 stored) 0, up (Memory.write 0 71 0x0008 stored) 1].map
        (fun t => (t.cfg.retractMax, t.cfg.retractRate, t.jp.flags)) = [(128, 30, 0x2000), (8, 1, 0x2000)] := by
  decide +kernel
theorem witness_ShiftIn_WordOut : Awake starting ∧ Awake idle := by unfold Awake; decide
theorem witness_PutStores : (Awake idle ∧ idle.jp.marker = false)
    ∧ (isStoreAddress (atAddress 0x0003 idle).jp.addr.toNat = true ∧ idle.ps.job = .disarmed)
    ∧ isStoreAddress (atAddress 0x0004 idle).jp.addr.toNat = false
    ∧ (isStoreAddress (atAddress 0x2FFF armed).jp.addr.toNat = true ∧ armed.ps.job ≠ .disarmed
      ∧ armed.ps.job ≠ .done) := by unfold Awake; decide
theorem witness_GetAndPeekLoad : Awake (atAddress 0xF001 idle) ∧ (atAddress 0xF001 idle).jp.marker = false := by
  unfold Awake; decide
/-- Words of each group of the map, at both ends of a table and just outside one. -/
theorem witness_map_words :
    let s : State := { cutting 20005 10000 1 0 5 (some 1) with
      pva := { PeerView.reset with peers := [(1, { Peer.never with live := .fresh, last := 3, cumulative := 3, attributed := 1 })]
                                   tally := [(5, 1)] } }
    [0x0003, 0x0004, 0x003F, 0x0040, 0x2FFF, 0x3000, 0xF000, 0xF006, 0xF00C, 0xF00E, 0xF010, 0xF012, 0xF01E, 0xF01F, 0xF102,
      0xF103, 0xF145, 0xF200, 0xF240, 0xF24F, 0xF250].map (mapRead s)
      = [ 3, 0, 0, 0x0BB8C050, 0, 0, 0x08000A0B, 20005, 0x10150000, 0x00803C1C, 2, 0x1476, 0x8001, 0, 0x00C00001
        , 0x00030001, 1, 1, 4117, 0, 0 ]
    ∧ [0xF010, 0xF01E].map (mapRead starting) = [0, 0] ∧ starting.power ≠ .ready ∧ s.power = .ready := by decide +kernel
theorem witness_OneShotActsOnce :
    let s : State := { ordered orderStart 0 armed with
      jp := { (ordered orderStart 0 armed).jp with marker := true } }
    Awake s ∧ s.jp.marker = true ∧ orderCode s.jp.word = orderStart := by unfold Awake; decide +kernel
theorem witness_OneShot_orders :
    (orderRows.all fun r => decide (orderCode (ordered r.1 0 armed).jp.word = r.1)) = true
    ∧ orderCode (ordered 0x07 0 armed).jp.word ∉ orderRows.map (·.1) := by decide +kernel
theorem witness_OrdersRefused : (definedOrders.all fun c => decide (orderCode (ordered c 7 starting).jp.word = c)) = true
    ∧ (ordered orderArm 0 starting).power = .starting ∧ (ordered orderArm 0 starting).jp.marker = false
    ∧ ([0x00, 0x07, 0x12, 0x33, 0xFF].all fun c =>
        decide (orderCode (ordered c 7 starting).jp.word ∉ definedOrders)) = true := by decide +kernel

/-- Every order arrives at an idle machine. -/
theorem witness_order_arrives : ∀ c ∈ definedOrders, OrderArrives c (ordered c 0 idle) := by
  unfold OrderArrives; decide +kernel
theorem witness_SetPosition :
    ([(0x0FFFFF, 1048575), (0x100000, 1048576), (0xF00001, -1048575), (0xF00000, -1048576)].all fun v : Nat × Int =>
      decide (signedField (ordered orderSetPositionX v.1 idle).jp.word 0 24 = v.2)) = true
    ∧ idle.pe.engine = .idle ∧ holding.pe.engine ≠ .idle := by decide +kernel
theorem witness_ArmAnswered : (idle.ps.job = .disarmed ∧ idle.prs.feed = none)
    ∧ ((inJob .done idle).ps.job = .done ∧ (feeding 65 (inJob .done idle)).prs.feed ≠ none)
    ∧ (withArm .handed).ps.job = .arming ∧ armed.ps.job = .armed := by decide
/-- The check that ends an ARM in each of the six places, and one that passes all of them. -/
theorem witness_ArmAnswered_checks :
    checkHeader (changed [(1, 0)]).js = some (.badHeader, 1) ∧ checkHeader idle.js = none
    ∧ ([([(0, 0)], 4117), ([(0, 4118)], 4117), ([], 0)].map fun v : List (Nat × Word) × Nat =>
        (runChecks cell v.2 (changed v.1).js).2)
      = [some (.plateMismatch, 0), some (.plateMismatch, 0), some (.noPlate, 0)]
    ∧ ([[(0x40, 0x0BB90050)], [(0x1000, 20000)], [(0x1005, 10007)], [(0x0202, 10)], []].map
        fun w : List (Nat × Word) => (runChecks cell 4117 (changed w).js).2)
      = [some (.badPart, 0), some (.badSegment, 0), some (.badArc, 1), some (.badMark, 1), none] := by
  decide +kernel

/-- Two parts, ARM waiting with the ABANDONED of the first: not the last part. -/
def waitingFirst (joined : Bool) : State :=
  let s := inJob .arming (changed [(1, 2)])
  { s with js := { s.js with arm := .waiting 0 joined }, prs := { s.prs with nv := [(0, 2), (1, 0x0029), (64, 4117)] } }

theorem witness_ArmEnds : (withArm (.failing .badArc 1)).js.arm = .failing .badArc 1
    ∧ (withArm .handed).ps.job = .arming
    ∧ (withArm (.waiting 0 false)).js.partCount ≤ 0 + 1 ∧ (withArm (.waiting 0 false)).prs.canJoin 0 = true
    ∧ (runChecks idle.cfg 4117 { idle.js with armErr := .none, armIdx := 0 }).2 = none
    ∧ (waitingFirst false).js.partCount = 2 ∧ (waitingFirst true).js.arm = .waiting 0 true
    ∧ ([false, true].all fun joined => decide ((run .armQueueWaitEnd (waitingFirst joined)).ps.held
        = [(0, .state .abandoned), (1, .state .uncut)])) = true := by
  decide +kernel
/-- The four ways in which a part record is read, and the queue before the array. -/
theorem witness_records_read :
    let read (w : Half) (q : List QueueEntry) : State :=
      readRecords [0] (queueing q .erase 0 false { idle with prs := { idle.prs with nv := [(0, w)] } })
    [(2, []), (2, fullQueue), (0, []), (6, []), (1, [⟨0, 6, false⟩])].map
        (fun v : Half × List QueueEntry => ((read v.1 v.2).js.arm, (read v.1 v.2).ps.held, (read v.1 v.2).jp.flags))
      = [ (.handed, [(0, .state .abandoned)], 0), (.waiting 0 false, [], 0), (.handed, [(0, .skipped)], 0x0200)
        , (.handed, [(0, .state (recordState 6))], 0), (.handed, [(0, .state (recordState 6))], 0) ] := by
  decide +kernel
theorem witness_HeaderCounts : 1 ≤ (changed [(3, 0)]).js.partCount ∧ (changed [(3, 0)]).js.markCount = 0
    ∧ [[(1, 0)], [(1, 65)], [(2, 0)], [(2, 2049)], [(3, 257)], [(3, 0)]].map (fun w => checkHeader (changed w).js)
      = [ some (.badHeader, 1), some (.badHeader, 1), some (.badHeader, 2), some (.badHeader, 2)
        , some (.badHeader, 3), none ] := by decide +kernel
theorem witness_StartTakesFirstPart : armed.ps.job = .armed ∧ 0 < armed.js.partCount
    ∧ Memory.read Held.dropped armed.ps.held 0 = .state .uncut
    ∧ (armed.pe.posX, armed.pe.posY) ≠ ((armed.js.part 0).startX, (armed.js.part 0).startY) ∧ idle.ps.job ≠ .armed := by
  decide +kernel
/-- The walk with part 0 TABBED, its budget spent or not, at a place of the scan. -/
def tabbed (drops : Nat) (s : State) : State :=
  { s with ps := { s.ps with held := [(0, .state .tabbed)] }, pva := { s.pva with tally := [(5, drops)] } }

/-- The first UNCUT part, and the first part that the table pass takes, are part 0; of the other there is none. -/
theorem witness_walk : FirstFrom 0 (HeldAs .uncut armed) 0 ∧ FirstFrom 0 (Releasable (tabbed 0 armed)) 0
    ∧ BudgetOk (tabbed 0 armed) 0 ∧ ¬ BudgetOk (tabbed 1 armed) 0
    ∧ (∀ p, ¬ HeldAs .uncut (tabbed 0 armed) p) ∧ ∀ p, ¬ Releasable armed p := by
  refine ⟨⟨Nat.le_refl _, ⟨by decide +kernel, by decide +kernel⟩, fun q _ h => absurd h (Nat.not_lt_zero q)⟩,
    ⟨Nat.le_refl _, ⟨⟨by decide +kernel, by decide +kernel⟩, by decide +kernel, fun d h => by cases h⟩,
      fun q _ h => absurd h (Nat.not_lt_zero q)⟩, ?_, ?_, ?_, ?_⟩
  · unfold BudgetOk; decide +kernel
  · unfold BudgetOk; decide +kernel
  · rintro p ⟨h, hp⟩
    have : p = 0 := Nat.lt_one_iff.mp h
    subst this; revert hp; decide +kernel
  · rintro p ⟨⟨h, hp⟩, _⟩
    have : p = 0 := Nat.lt_one_iff.mp h
    subst this; revert hp; decide +kernel
/-- START in the release phase: the part is released, is HELD and the job DONE, waits for room; or nothing is left. -/
theorem witness_Start_release :
    let start (s : State) : State := run .start (ordered orderStart 0 s)
    let full := queueing fullQueue .erase 0 false (tabbed 1 armed)
    let none' : State := { armed with ps := { armed.ps with held := [(0, .state .released)] } }
    (start (tabbed 0 armed)).ps.activity = .traversing .releaseKerf
      ∧ (start (tabbed 1 armed)).ps.job = .done ∧ (start (tabbed 1 armed)).jp.flags = 0x0007
      ∧ full.prs.canJoin 0 = false ∧ (start full).ps.head = .idle ∧ (start full).ps.job = .running
      ∧ (start none').ps.job = .done ∧ (start none').jp.flags = 0x0001 := by decide +kernel
theorem witness_Halt_Resume_Skip :
    OrderArrives orderHalt (ordered orderHalt 0 (threading .jet)) ∧ (threading .jet).tu.stage.threading = true
    ∧ (threading .jet).ps.activity = .threading .startHole ∧ (threading .jet).ps.job = .running
    ∧ OrderArrives orderResume (ordered orderResume 0 (stopped waiting)) ∧ (stopped waiting).ps.job = .halted
    ∧ (stopped waiting).ps.activity = .waitThread .startHole
    ∧ OrderArrives orderSkipPart (ordered orderSkipPart 0 (stopped holding))
    ∧ (stopped holding).ps.current = some 0 ∧ (stopped holding).ps.activity = .waitRelease
    ∧ holding.pe.engine = .standby ∧ holding.tu.stage = .threaded ∧ holding.prs.canJoin 0 = true := by
  unfold OrderArrives; decide +kernel
theorem witness_Resume_stall :
    let s := head .stalled .passing
      (logged [xUp] [xUp] .stalledStuck .short (cutting 20001 10000 0 1 1 (some 0)))
    s.ps.job = .running ∧ s.ps.head = .stalled ∧ s.gc.mode = .stalledStuck ∧ s.gc.redo ≠ []
      ∧ ¬ (holding.ps.head = .stalled ∧ holding.gc.mode = .stalledStuck)
      ∧ (run .resume (ordered orderResume 0 s)).gc.mode = .replaying := by decide +kernel
/-- RESUME of a halted job, by what the halt had stopped: head and activity after it. -/
theorem witness_Resume_takes_up :
    let went (s : State) : HeadState × Activity :=
      let t := run .resume (ordered orderResume 0 (stopped s))
      (t.ps.head, t.ps.activity)
    let retracted (redo : List PathStep) (m : GapMode) : State :=
      logged [xUp] redo m .short (cutting 20001 10000 0 1 1 (some 0))
    let threaded (a : Activity) : State := doing a (threading .threaded)
    [ retracted [xUp] .retracting, retracted [] .stalledTiming, doing .boundary { armed with ps := { armed.ps with phase := .rough } }
    , doing .boundary (tabbed 0 { armed with ps := { armed.ps with phase := .release } })
    , threaded (waitingRecord .loadRough false), threaded (waitingRecord .loadRough true)
    , threaded (.recordJoined .unthread), threaded (waitingRecord .unthreadRunning true) ].map went
      = [ (.cutting, .passing), (.cutting, .passing), (.traverse, .traversing .startHole), (.traverse, .traversing .releaseKerf)
        , (.threading, waitingRecord .loadRough false), (.cutting, .passing), (.unthreading, .unthreading)
        , (.unthreading, .unthreading) ]
    ∧ (run .resume (ordered orderResume 0 (stopped (retracted [xUp] .retracting)))).gc.mode = .replaying
    ∧ (run .resume (ordered orderResume 0 (stopped (retracted [] .stalledTiming)))).eg.recovery = 20 := by
  decide +kernel
/-- SKIP_PART of a part stalled in its rough cut, halted in it, and in its release pass; of one settled. -/
theorem witness_Skip_settles :
    let skip (s : State) : State := run .skipPart (ordered orderSkipPart 0 s)
    let stalled := head .stalled .passing (logged [] [xUp] .stalledTiming .short (cutting 20000 10000 0 0 0 (some 0)))
    let settled := doing (waitingRecord .unthread true) stalled
    [stalled, stopped (cutting 20003 10000 0 3 3 (some 1)), stopped (releasing 20002 10005 1 8 13 (some 2))].map
        (fun s => ((skip s).jp.flags, (skip s).tu.stage, (skip s).ps.head))
      = [(0x0002, .unthread, .unthreading), (0x0002, .unthread, .parked), (0x0006, .unthread, .parked)]
    ∧ (skip settled).jp.answer = .refusedState ∧ (skip settled).prs = settled.prs := by decide +kernel
theorem witness_Skip_refused :
    (doing (waitingRecord .unthread false) holding).ps.activity = waitingRecord .unthread false
    ∧ holding.ps.head ≠ .stalled ∧ armed.ps.job ≠ .running ∧ armed.ps.job ≠ .halted := by decide
theorem witness_Abort :
    let s := ordered orderAbort 0 (cutting 20003 10000 0 3 3 (some 1))
    let r := ordered orderAbort 0 (releasing 20002 10005 1 8 13 (some 2))
    OrderArrives orderAbort s ∧ s.ps.job = .running ∧ s.ps.current = some 0 ∧ s.gc.asked = false
      ∧ s.ps.activity = .passing ∧ s.pe.passKind = .rough ∧ s.prs.canJoin 0 = true
      ∧ OrderArrives orderAbort r ∧ r.ps.activity = .passing ∧ r.pe.passKind = .release
      ∧ (queueing fullQueue .erase 0 false s).prs.canJoin 0 = false := by unfold OrderArrives; decide +kernel
theorem witness_NewPlateBegins :
    ([(0, false), (1, true), (65534, true), (65535, false)].all fun v : Nat × Bool =>
      decide ((1 ≤ orderArg (ordered orderNewPlate v.1 idle).jp.word
        ∧ orderArg (ordered orderNewPlate v.1 idle).jp.word ≤ 65534) ↔ v.2 = true)) = true
    ∧ idle.ps.job = .disarmed ∧ idle.prs.feed = none := by decide +kernel
theorem witness_NewPlate_feeds :
    let s := run .newPlate (ordered orderNewPlate 7 idle)
    idle.prs.queue = [] ∧ s.prs.queue.map (·.word) = [64, 0, 1, 2, 3, 4, 5, 6] ∧ s.prs.feed = some 8 := by decide +kernel
/-- NEW_PLATE with argument 7 over entries never heard, turning foreign, foreign and staying so, of the plate again, and of
the plate already: last count, cumulative and attributed releases and foreign flag after it, and PLATE_FOREIGN. -/
theorem witness_NewPlate_peers :
    let e (plate : Half) (foreign : Bool) : Peer := { entry .stale 3 9 2 with plate := plate, isForeign := foreign }
    let s (l : Memory Peer) : State := run .newPlate (ordered orderNewPlate 7 { idle with
      pva := { PeerView.reset with peers := l, tally := [(5, 1)] } })
    let row (p : Peer) : Nat × Nat × Bool × Half :=
      let t := s [(1, p)]
      ((t.pva.peer 1).cumulative, (t.pva.peer 1).attributed, (t.pva.peer 1).isForeign, t.jp.flags)
    [Peer.never, e 4117 false, e 4117 true, e 7 true, e 7 false].map row
      = [(0, 0, false, 0), (9, 2, true, 0x8000), (9, 2, true, 0), (3, 0, false, 0), (9, 2, false, 0)]
    ∧ (s []).pva.tally = [] := by decide +kernel
/-- Seven entries and eight, no entry for the next word and one, and the last update. -/
theorem witness_FeedGoesOn :
    let e (n : Nat) : State := queueing (fullQueue.take n) .write 1 false idle
    let queue (s : State) : List Nat := (run .newPlateFeedResume s).prs.queue.map (·.word)
    (e 7).prs.queue.length = 7 ∧ queue (feeding 30 (e 7)) = [10, 11, 12, 13, 14, 15, 16, 29]
      ∧ (run .newPlateFeedResume (feeding 64 (e 7))).prs.feed = some 65
      ∧ (run .newPlateFeedResume (feeding 65 (e 7))).prs.feed = some 65
      ∧ (run .newPlateFeedResume (feeding 18 (e 8))).prs.feed = some 19
      ∧ (run .newPlateFeedResume (feeding 30 (e 8))).prs = (feeding 30 (e 8)).prs
      ∧ (run (.writeEnd 1) (feeding 30 (e 8))).prs.queue.map (·.word) = [11, 12, 13, 14, 15, 16, 17, 29]
      ∧ (run (.writeEnd 1) (feeding 30 (e 8))).prs.feed = some 31 := by decide +kernel
/-- No update from the thirtieth on, nor any from the nineteenth on, has an entry; the eighteenth has. -/
theorem witness_Feed_free :
    (∀ j, 30 ≤ j → j < 65 → (queueing fullQueue .write 1 false idle).prs.hasEntry (if j = 0 then 64 else j - 1) = false)
    ∧ (∀ j, 18 + 1 ≤ j → j < 65 →
        (queueing fullQueue .write 1 false idle).prs.hasEntry (if j = 0 then 64 else j - 1) = false)
    ∧ (queueing fullQueue .write 1 false idle).prs.hasEntry (18 - 1) = true := by
  have h : ∀ j : Fin 65, 19 ≤ j.val →
      (queueing fullQueue .write 1 false idle).prs.hasEntry (if j.val = 0 then 64 else j.val - 1) = false := by
    decide +kernel
  exact ⟨fun j h1 h2 => h ⟨j, h2⟩ (Nat.le_trans (by decide) h1), fun j h1 h2 => h ⟨j, h2⟩ h1, by decide⟩
theorem witness_WriteConfigQueues :
    ([(0, false), (1, true), (15, true), (16, false)].all fun v : Nat × Bool =>
      decide ((1 ≤ field (ordered orderWriteConfig (v.1 * 65536 + 9) idle).jp.word 16 8
        ∧ field (ordered orderWriteConfig (v.1 * 65536 + 9) idle).jp.word 16 8 ≤ 15) ↔ v.2 = true)) = true
    ∧ idle.prs.canJoin 65 = true ∧ (queueing fullQueue .erase 0 false idle).prs.canJoin 65 = false := by
  decide +kernel

/-- A traverse of one step more, or of two. -/
def traversing (tx : Int) : State :=
  let s := head .traverse (.traversing .startHole) armed
  { s with pe := { s.pe with
      engine := .traverse, traverse := some { sx := 0, sy := 0, tx := tx, ty := 0, moving := true } } }

/-- A pass of part 0 whose wire broke, in a rethreading. -/
def broken (kind : PassKind) (a : Activity) : State :=
  let s := cutting 20003 10000 0 3 3 (some 1)
  doing a { s with
    tu := lineless s.tu, pe := { s.pe with passKind := kind }, gc := { s.gc with mode := .wireWait } }
def heldBack (k : Follow) (joined : Bool) : State := doing (waitingRecord k joined) holding

/-- HALT by what the head was doing: what it leaves the head doing; and the frame on the line at a withdrawn intent. -/
theorem witness_Halt_stops :
    let halt (s : State) : Activity := (run .halt (ordered orderHalt 0 s)).ps.activity
    [ traversing 2, waiting, holding, threading .jet, cutting 20000 10000 0 0 0 (some 0), doing .unthreading holding
    , heldBack .unthread false, heldBack .loadRough true, heldBack .threadAgain true, heldBack .unthread true
    , heldBack .unthreadRunning true, heldBack .nextPart true ].map halt
      = [ .traversing .startHole, .waitThread .startHole, .waitRelease, .waitThread .startHole, .passing, .unthreading
        , waitingRecord .unthread false, .recordJoined .loadRough, .recordJoined .threadAgain, .recordJoined .unthread
        , .unthreading, .boundary ]
    ∧ (run .halt (ordered orderHalt 0 (sending true))).cli.sending = some { frame := sampleFrame, live := false } := by
  decide +kernel
/-- SKIP_PART in HALTED with no wire captured: in a traverse, a wait, a threading and the rethreadings, and with the queue
full. -/
theorem witness_Skip_before_capture :
    let skip (s : State) : Activity × Half × Stage × EngineState :=
      let t := run .skipPart (ordered orderSkipPart 0 (stopped s))
      (t.ps.activity, t.jp.flags, t.tu.stage, t.pe.engine)
    [ traversing 2, waiting, threading .jet, broken .rough (.waitThread .rethreadPass)
    , broken .release (.threading .rethreadPass), doing (.waitThread .rethreadHold) { holding with tu := lineless holding.tu }
    ].map skip
      = [ (.boundary, 0x0002, .idle, .standby), (.boundary, 0x0002, .idle, .standby), (.boundary, 0x0002, .idle, .standby)
        , (.boundary, 0x0002, .idle, .standby), (.boundary, 0x0006, .idle, .standby), (.boundary, 0x0006, .idle, .standby) ]
    ∧ (skip (queueing fullQueue .erase 0 false waiting)).1
      = .recordWait { part := 0, state := .abandoned, zone := 5, defer := false } .nextPart false
    ∧ (threading .jet).tu.stage.threading = true ∧ waiting.tu.stage = .idle := by decide +kernel
/-- SKIP_PART with the queue full: stalled in a rough cut, halted in it and in a release pass, at a hold point, and captured
with the pass load waiting; the last with room too. -/
theorem witness_Skip_waits :
    let stalled := head .stalled .passing (logged [] [xUp] .stalledTiming .short (cutting 20000 10000 0 0 0 (some 0)))
    let captured := stopped (doing (.recordJoined .loadRough) (threading .threaded))
    let full (s : State) : Activity × HeadState × Stage × Half :=
      let t := run .skipPart (ordered orderSkipPart 0 (queueing fullQueue .erase 0 false s))
      (t.ps.activity, t.ps.head, t.tu.stage, t.jp.flags)
    let waits (r : RecState) : Activity := .recordWait { part := 0, state := r, zone := 5, defer := false } .unthread false
    [ stalled, stopped (cutting 20003 10000 0 3 3 (some 1)), stopped (releasing 20002 10005 1 8 13 (some 2))
    , stopped holding, captured ].map full
      = [ (waits .abandoned, .stalled, .threaded, 0), (waits .abandoned, .parked, .threaded, 0)
        , (waits .held, .parked, .threaded, 0), (waits .held, .parked, .threaded, 0)
        , (waits .abandoned, .parked, .threaded, 0) ]
    ∧ (run .skipPart (ordered orderSkipPart 0 captured)).ps.activity = .unthreading
    ∧ Unsettled captured.ps.activity := by
  refine ⟨by decide +kernel, by decide +kernel, ?_⟩
  unfold Unsettled; exact .inr (.inr (.inr (.inl rfl)))
/-- ABORT's update by where the part stands, ABANDONED with zone 5 as 46, HELD as 45; none at a full queue. -/
theorem witness_Abort_rows :
    let abort (s : State) : List Half × Half :=
      let t := run .abort (ordered orderAbort 0 s)
      (t.prs.queue.map (·.value), t.jp.flags)
    let pass (kind : PassKind) (a : Activity) : State :=
      let s := cutting 20003 10000 0 3 3 (some 1)
      doing a { s with pe := { s.pe with passKind := kind } }
    ([ pass .rough .passing, pass .rough (.threading .rethreadPass), doing (.traversing .startHoleAgain) waiting
     , heldBack .loadRough true, doing (.recordJoined .threadAgain) holding ].map abort
        = List.replicate 5 ([46], 0x0002))
    ∧ ([ pass .release .passing, holding, pass .release (.waitThread .rethreadPass)
       , doing (.waitThread .rethreadHold) holding ].map abort = List.replicate 4 ([45], 0x0006))
    ∧ ([ waiting, traversing 2, threading .jet, doing (.waitThread .releaseKerf) waiting, doing .unthreading holding
       , doing .boundary holding, heldBack .loadRough false, heldBack .unthread true, doing (.recordJoined .unthread) holding
       ].map abort = List.replicate 9 ([], 0))
    ∧ (run .abort (ordered orderAbort 0 (queueing fullQueue .erase 0 false holding))).prs.queue = fullQueue := by
  decide +kernel

theorem witness_TraverseStepMoves :
    lineStep 0 0 1 0 (traversing 1).pe.posX (traversing 1).pe.posY = some xUp
    ∧ (run .traverseStep (traversing 1)).ps.head = .waitThread
    ∧ (run .traverseStep (traversing 2)).ps.head = .traverse := by decide +kernel
theorem witness_ForwardCutStep :
    let s := cutting 20000 10000 0 0 0 (some 0)
    cutReady s = true ∧ nextCutStep s = some xUp ∧ 0 ≠ (s.js.part s.pe.passPart).segCount
      ∧ ¬ ((s.js.mark 0).relSeg = 0 ∧ (s.js.mark 0).offset = 1) := by decide +kernel
theorem witness_MarksFire :
    ([(0, 3, 0, markEnergy), (1, 7, 1, markHold), (2, 1, 2, markFeed)].all fun v : Nat × Nat × Nat × Nat =>
      let s := cutting 20003 10000 v.1 v.2.1 0 (some v.2.2.1)
      let mk := s.js.mark v.2.2.1
      decide (mk.relSeg = v.1) && decide (mk.offset = v.2.1) && decide (mk.kind = v.2.2.2)
        && !s.pe.fired.getLsbD v.2.2.1) = true
    ∧ (armed.js.part 0).policy = policyDrop := by decide +kernel
/-- The HOLD mark under TAB_HOLD and under TAB_RELEASE, with queue room and without. -/
theorem witness_Marks_tabs :
    let at' (w : Word) (q : List QueueEntry) : State :=
      let s := queueing q .erase 0 false (cutting 20002 10004 1 7 12 (some 1))
      { s with js := (changed [(0x40, w)]).js }
    let row (w : Word) (q : List QueueEntry) : Nat × Nat × HeadState × Half :=
      let t := checkMark (at' w q)
      (((at' w q).js.part 0).policy, t.prs.queue.length, t.ps.head, t.jp.flags)
    [row 0x0BB8C052 [], row 0x0BB8C051 [], row 0x0BB8C051 fullQueue].map (·.2)
        = [(1, .unthreading, 0x0006), (1, .unthreading, 0x0002), (8, .cutting, 0)]
      ∧ [(row 0x0BB8C052 []).1, (row 0x0BB8C051 []).1] = [policyTabHold, policyTabRelease] := by decide +kernel
theorem witness_ContourEndReleases :
    let s := releasing 20000 10000 3 0 20 none
    s.pe.seg = (s.js.part s.pe.passPart).segCount ∧ s.ps.current = some 0 ∧ s.ps.job = .running
      ∧ s.tu.stage = .threaded ∧ s.prs.canJoin 0 = true ∧ (checkContour s).ps.ownCount = 1 := by decide +kernel

/-- The contour end at a full queue: the release is not yet counted and the wire still through. -/
theorem witness_Contour_waits :
    let s := queueing fullQueue .erase 0 false (releasing 20000 10000 3 0 20 none)
    let t := checkContour s
    s.prs.canJoin 0 = false ∧ t.ps.ownCount = 0 ∧ t.ps.head = .releasing ∧ t.tu.stage = .threaded
      ∧ (checkContour (releasing 20000 10000 3 0 20 none)).ps.held = [(0, .state .released)] := by decide +kernel

/-- A pass in FEEDING about to go short, with a log or without. -/
def nearShort (log : List PathStep) : State :=
  let s := logged log [] .feeding .normal (cutting 20001 10000 0 1 1 (some 0))
  { s with gc := { s.gc with acc := 1636 } }

theorem witness_SampleFiltered :
    let s := logged [] [] .stalledStuck .short (cutting 20000 10000 0 0 0 (some 0))
    s.gc.mode = .stalledStuck ∧ s.gc.halted = false ∧ idle.gc.mode = .idle := by decide +kernel
/-- A sample of 0 or of 1023 in each mode of an episode, by the size of the accumulator: the mode it leaves. -/
theorem witness_Sample_modes :
    let at' (m : GapMode) (acc : Nat) (redo : List PathStep) : State :=
      let s := logged [xUp] redo m .short (cutting 20001 10000 0 1 1 (some 0))
      { s with gc := { s.gc with acc := acc } }
    let mode (v : BitVec 10) (s : State) : GapMode := (run (.gapSample v) s).gc.mode
    [ mode 0 (at' .retracting 1000 []), mode 0 (at' .stalledTiming 1000 [xUp]), mode 1023 (at' .replaying 3000 [xUp])
    , mode 1023 (at' .retracting 3000 [xUp]), mode 1023 (at' .retracting 3000 [])
    , mode 1023 (at' .stalledTiming 3000 [xUp]), mode 1023 (at' .stalledTiming 3000 [])
    , mode 0 (at' .replaying 1000 [xUp]), mode 0 (at' .replaying 1000 (List.replicate 8 xUp)) ]
      = [ .retracting, .stalledTiming, .replaying, .replaying, .feeding, .replaying, .feeding, .retracting
        , .stalledTiming ] := by decide +kernel
theorem witness_ShortBeginsRetract :
    let g (v : Nat) := filterSample cell v (nearShort [xUp]).gc
    1 ≤ cell.retractMax ∧ cell.ts = 180 ∧ (g 0).acc / 8 = 179 ∧ (g 8).acc / 8 = 180
      ∧ (run (.gapSample 0) (nearShort [xUp])).gc.asked = true
      ∧ (run (.gapSample 0) (nearShort [])).gc.mode = .stalledTiming := by decide +kernel
theorem witness_RetractStepUndoes :
    let s (redo : List PathStep) := logged [xUp, xUp] redo .retracting .short (cutting 20002 10000 0 2 2 (some 0))
    cell.retractMax = 8 ∧ (run .retractStep (s (List.replicate 6 xUp))).gc.mode = .retracting
      ∧ (run .retractStep (s (List.replicate 7 xUp))).gc.mode = .stalledTiming := by decide +kernel
theorem witness_ReplayStepReplays :
    let s (redo : List PathStep) := logged [] redo .replaying .normal (cutting 20000 10000 0 0 0 (some 0))
    0 < effectiveFeed (s [xUp]) ∧ (s [xUp]).pe.engine = .pass
      ∧ (run .replayStep (s [xUp])).gc.mode = .feeding ∧ (run .replayStep (s [xUp])).eg.recovery = 20
      ∧ (run .replayStep (s [xUp, xUp])).gc.mode = .replaying := by decide +kernel
theorem witness_ReplayUndoesRetract :
    let s := logged [xUp] [] .retracting .short (cutting 20005 10000 1 0 5 (some 1))
    1 ≤ s.pe.count ∧ 1 ≤ s.pe.seg ∧ s.js.length ((s.js.part 0).firstSeg + 0) = 5
      ∧ s.pe.off + 1 ≤ s.js.length ((s.js.part 0).firstSeg + 1) := by decide +kernel
theorem witness_WarningTimers :
    (logged [] [xUp] .stalledTiming .short (cutting 20000 10000 0 0 0 (some 0))).gc.mode = .stalledTiming
    ∧ waiting.pva.intent.kind = .thread ∧ waiting.pva.intent.warnTimer ≠ none := by decide +kernel
theorem witness_ActiveLevelAndFeed : cell.ts < cell.gt ∧ cell.enRecovery = true
    ∧ eact { cutting 0 0 0 0 0 none with eg := { primary := 12, recovery := 1 } } = 6
    ∧ eact { cutting 0 0 0 0 0 none with eg := { primary := 12, recovery := 0 } } = 12 := by decide +kernel

/-- A peer in zone 5 or 10 of the part's zone 5, threading, releasing or waiting, heard or not, foreign or not, and in a
halted pass: the active level and E[3:0]. -/
theorem witness_peer_causes :
    let near (h : BitVec 4) (z : BitVec 6) (l : Liveness) (foreign halted : Bool) : Nat × Nat :=
      let p : Peer := { Peer.never with live := l, head := h, zone := z, isForeign := foreign }
      let s := cutting 20000 10000 0 0 0 (some 0)
      let t : State := { s with pva := { PeerView.reset with peers := [(1, p)] }, gc := { s.gc with halted := halted } }
      (eact t, energyLines t)
    cell.enThread = true ∧ cell.enRelease = true ∧ cell.zx = 4
    ∧ [ near 3 5 .fresh false false, near 3 10 .stale false false, near 7 5 .fresh false false, near 3 5 .fresh false true
      , near 3 7 .fresh false false, near 3 5 .fresh true false, near 3 5 .absent false false, near 6 5 .fresh false true ]
      = [(6, 6), (6, 6), (6, 6), (6, 0), (12, 12), (12, 12), (12, 12), (12, 0)] := by decide +kernel

theorem witness_Stages_Attempts :
    ([Stage.sever, .anneal, .jet, .feed, .capture, .withdraw].all fun st => decide ((threading st).tu.stage = st)) = true
    ∧ (threading .anneal).tu.jetOk = false ∧ (threading .jet).tu.wireOk = false
    ∧ (run .jetTimeout (threading .jet)).tu.failed = 1 := by decide +kernel
/-- An attempt that finds every line asserted runs through to its capture, from ANNEAL, from JET and from FEED. -/
theorem witness_Stages_run_through :
    let s (st : Stage) : State :=
      { threading st with tu := { (threading st).tu with jetOk := true, wireOk := true } }
    [run (.annealTimerExpiry true) (s .anneal), run (.jetOkRise true) (s .jet), run .pickupRise (s .feed)].map
        (fun t => (t.tu.stage, t.ps.head))
      = List.replicate 3 (.threaded, .cutting)
    ∧ (run (.annealTimerExpiry false) (s .anneal)).tu.stage = .feed
    ∧ (run (.annealTimerExpiry true) { s .anneal with tu := { (s .anneal).tu with wireOk := false } }).tu.stage
      = .capture := by decide +kernel
theorem witness_WithdrawEnds :
    let s (n : Nat) : State :=
      { threading .withdraw with tu := { (threading .withdraw).tu with failed := n } }
    cell.threadTries = 2 ∧ (s 1).prs.canJoin 0 = true ∧ (s 1).ps.current = some 0
      ∧ (run .withdrawEnd (s 1)).tu.stage = .sever ∧ (run .withdrawEnd (s 2)).tu.stage = .idle := by decide +kernel
theorem witness_Captures :
    (threading .capture).tu.mode = .startHole ∧ (threading .capture).ps.activity = .threading .startHole
    ∧ (threading .capture).ps.current = some 0 ∧ (threading .capture).prs.canJoin 0 = true
    ∧ (run .wireOkRise (threading .capture)).ps.head = .cutting
    ∧ (let s := cutting 20003 10000 0 3 3 (some 1)
       let b := doing (.threading .rethreadPass)
         { s with tu := { s.tu with stage := .capture, mode := .kerf }, gc := { s.gc with mode := .wireWait } }
       (run .wireOkRise b).pe.count = 0 ∧ (run .wireOkRise b).pe.off = 3 ∧ (run .wireOkRise b).gc.mode = .feeding) := by
  decide +kernel
/-- A threading of a purpose in WITHDRAW, its attempts spent, with no part after it. -/
def spent (p : Purpose) (kind : PassKind) (q : List QueueEntry) : State :=
  let s := queueing q .erase 0 false (broken kind (.threading p))
  { s with ps := { s.ps with scan := 1 }
           tu := { s.tu with stage := .withdraw, mode := threadModeOf p, failed := 7 } }

/-- Every failed threading: ABANDONED with zone 5 as 46 or HELD as 45, the job then DONE; at a full queue it waits. -/
theorem witness_Withdraw_fails :
    let fail (s : State) : List Half × Half × JobState :=
      let t := run .withdrawEnd s
      (t.prs.queue.map (·.value), t.jp.flags, t.ps.job)
    [ spent .startHole .rough [], spent .startHoleAgain .rough [], spent .rethreadPass .rough [], spent .releaseKerf .rough []
    , spent .rethreadHold .rough [], spent .rethreadPass .release [] ].map fail
      = List.replicate 3 ([46], 0x000B, .done) ++ List.replicate 3 ([45], 0x000F, .done)
    ∧ (run .withdrawEnd (spent .rethreadHold .rough fullQueue)).ps.activity
      = .recordWait { part := 0, state := .held, zone := 5, defer := false } .nextPart false := by decide +kernel
/-- A second capture at the start hole with queue room and without, and the two captures at a hold position. -/
theorem witness_Captures_wait :
    let cap (p : Purpose) (q : List QueueEntry) : Activity × HeadState × IntentKind :=
      let s := spent p .rough q
      let t := run .wireOkRise { s with tu := { s.tu with stage := .capture } }
      (t.ps.activity, t.ps.head, t.pva.intent.kind)
    [cap .startHoleAgain [], cap .startHoleAgain fullQueue, cap .releaseKerf [], cap .rethreadHold []]
      = [ (.passing, .cutting, .none), (waitingRecord .loadRough false, .cutting, .none)
        , (.waitRelease, .waitRelease, .release), (.waitRelease, .waitRelease, .release) ] := by decide +kernel
theorem witness_WireLost :
    let s := cutting 20003 10000 0 3 3 (some 1)
    s.tu.stage = .threaded ∧ s.ps.activity = .passing ∧ s.ps.job = .running ∧ (stopped s).ps.job ≠ .running
      ∧ holding.tu.stage = .threaded ∧ holding.ps.activity = .waitRelease ∧ holding.ps.job = .running
      ∧ (run .wireOkFall s).ps.head = .waitThread := by decide +kernel
/-- A loss of wire in a halted hold-point wait, in the record waits and with the unit idle; and the two record waits
that end after one. -/
theorem witness_Wire_lost_waits :
    let lose (s : State) : Activity × Half := ((run .wireOkFall s).ps.activity, (run .wireOkFall s).jp.flags)
    let waits (k : Follow) (joined : Bool) : State := doing (waitingRecord k joined) holding
    let idleUnit : State := { waits .unthread true with tu := lineless holding.tu }
    [stopped holding, waits .loadRough false, doing (.recordJoined .loadRough) holding, waits .unthread false].map lose
      = [ (.waitThread .rethreadHold, 0x0010), (waitingRecord .threadAgain false, 0), (.waitThread .startHoleAgain, 0)
        , (waitingRecord .unthread false, 0) ]
    ∧ (threading .capture).tu.stage ≠ .threaded
    ∧ (run .recordWaitEnd (waits .threadAgain true)).ps.activity = .waitThread .startHoleAgain
    ∧ idleUnit.tu.stage = .idle ∧ idleUnit.ps.scan = 0 ∧ idleUnit.ps.phase = .rough
    ∧ (run .recordWaitEnd idleUnit).ps.activity = .traversing .startHole := by decide +kernel
/-- The end of an unthread in RUNNING: the next UNCUT part, the next TABBED one, the deferred one, the end of the job. -/
theorem witness_Unthread_goes_on :
    let s (ph : Phase) (d : List (Nat × Nat)) (t : State) : State := doing .unthreading { t with
      tu := { holding.tu with stage := .unthread }, ps := { t.ps with job := .running, phase := ph, deferred := d } }
    let after (x : State) : Activity × Option Nat × JobState :=
      let t := run .unthreadTimerExpiry x
      (t.ps.activity, t.ps.attempts, t.ps.job)
    [s .rough [] armed, s .release [] (tabbed 0 armed), s .release [(0, 1)] (tabbed 0 armed), s .release [] armed].map
        after
      = [ (.traversing .startHole, none, .running), (.traversing .releaseKerf, none, .running)
        , (.traversing .releaseKerf, some 1, .running), (.none, none, .done) ] := by decide +kernel
theorem witness_UnthreadEnds :
    let s (m : Bool) : State := doing .unthreading { holding with
      tu := { holding.tu with stage := .unthread }, ps := { (stopped holding).ps with marker := m } }
    (s true).tu.stage = .unthread ∧ (s true).ps.activity = .unthreading ∧ (s true).ps.marker = true
      ∧ (s false).ps.marker = false ∧ (s false).ps.job = .halted := by decide

/-- The end of an unthread beside an update that waits, or has joined. -/
theorem witness_Unthread_beside :
    let s (joined : Bool) : State :=
      doing (waitingRecord .unthreadRunning joined) { holding with tu := { holding.tu with stage := .unthread } }
    [s false, s true].map (fun x => (run .unthreadTimerExpiry x).ps.activity)
      = [waitingRecord .nextPart false, waitingRecord .nextPart true] := by decide
theorem witness_OwnSlotSends : idle.cli.mode = .active ∧ idle.pva.intent.lastAge = none
    ∧ (run (.ownSlotArrival 128 true) idle).cli.mode = .backoff
    ∧ (run (.ownSlotArrival 128 false) idle).cli.sending.isSome = true := by decide +kernel
/-- LINE_LOST is set as the quiet count goes from 15 to 16, and at no other arrival. -/
theorem witness_OwnSlot_quiet :
    let s (q : Nat) (h : Bool) : State := { idle with cli := { idle.cli with quiet := q, heard := h } }
    [(14, false), (15, false), (15, true), (16, false)].map (fun v : Nat × Bool =>
        let t := run (.ownSlotArrival 128 false) (s v.1 v.2)
        (t.cli.quiet, t.jp.flags))
      = [(15, 0), (16, 0x0800), (0, 0), (16, 0)] := by decide +kernel
/-- The own slot in every line mode: mode, slots left of LISTEN, collisions, and the age announced in SOLO and NO_SLOT. -/
theorem witness_OwnSlot_modes :
    let row (m : LineMode) (left : Nat) (wait driven : Bool) : LineMode × Nat × Nat × Option Nat :=
      let x := if wait then { waiting with pva := { waiting.pva with intent := newIntent .thread 0 } } else idle
      let t := run (.ownSlotArrival 128 driven) { x with cli := { x.cli with mode := m, listenLeft := left } }
      (t.cli.mode, t.cli.listenLeft, t.cli.collision, t.pva.intent.lastAge)
    [ row .listen 2 false true, row .listen 1 true false, row .listen 1 false true, row .active 0 true true
    , row .backoff 0 false true, row .stuck 0 false false, row .solo 0 true false, row .noSlot 0 true true
    , row .solo 0 false false ]
      = [ (.listen, 1, 0, none), (.active, 0, 0, none), (.backoff, 0, 1, none), (.backoff, 0, 1, none)
        , (.active, 0, 0, none), (.stuck, 0, 0, none), (.solo, 0, 0, some 0), (.noSlot, 0, 0, some 0)
        , (.solo, 0, 0, none) ] := by decide +kernel
/-- The thread answer by line mode and quiet count: LOST and NO_SLOT wait, else a grant starts an idle unit or restarts a
paused one. -/
theorem witness_Thread_by_link :
    let row (m : LineMode) (quiet : Nat) (heard : Bool) (st : Stage) : Activity × Stage × Nat × Option Nat :=
      let t := run (.ownSlotArrival 128 false) { waiting with
        cli := { waiting.cli with mode := m, quiet := quiet, heard := heard }
        tu := { waiting.tu with stage := st, failed := 1 } }
      (t.ps.activity, t.tu.stage, t.tu.failed, t.pva.intent.lastAge)
    [ row .active 15 false .idle, row .noSlot 0 true .idle, row .active 15 true .idle, row .listen 14 false .idle
    , row .solo 15 false .paused, row .backoff 0 true .paused ]
      = [ (.waitThread .startHole, .idle, 1, some 0), (.waitThread .startHole, .idle, 1, some 1)
        , (.threading .startHole, .sever, 0, none), (.threading .startHole, .sever, 0, none)
        , (.threading .startHole, .sever, 1, none), (.threading .startHole, .sever, 1, none) ] := by decide +kernel
theorem witness_ThreadGranted : waiting.cli.mode = .active ∧ waiting.cli.heard = true ∧ waiting.tu.stage = .idle
    ∧ waiting.ps.activity = .waitThread .startHole ∧ waiting.pva.intent.kind = .thread
    ∧ waiting.pva.intent.lastAge = some 0 ∧ 1 ≤ waiting.cfg.jetLimit
    ∧ threadDecision waiting 0 (waiting.pva.peers.map fun e => (e.1, e.2.aged)) = .grant
    ∧ (inLine .solo waiting).cli.mode = .solo := by decide +kernel
/-- With no peer the budget passes and a release is granted; a DropLimit spent denies it; a neighbour that threads
makes it wait until ReleaseWait is over, 2 s after the announcement. -/
theorem witness_ReleaseDecided :
    let near : Memory Peer := [(1, { entry .fresh 0 0 0 with head := 3, zone := 5 })]
    let late (n : Nat) : State := { holding with
      now := n, pva := { holding.pva with intent := { holding.pva.intent with firstAt := some 0 } } }
    releaseDecision holding 0 [] = .grant
      ∧ releaseDecision { holding with pva := { holding.pva with tally := [(5, 1)] } } 0 [] = .denied
      ∧ releaseDecision (late 3999999) 0 near = .wait ∧ releaseDecision (late 4000000) 0 near = .expired := by
  decide +kernel
/-- The four answers acted on at the own slot, and an EXPIRED of the release phase deferred again and HELD. -/
theorem witness_answers_acted_on :
    let near : Memory Peer := [(1, { entry .fresh 0 0 0 with head := 3, zone := 5 })]
    let late (n drops : Nat) (peers : Memory Peer) (ph : Phase) (att : Option Nat) : State :=
      { holding with
          now := n, cli := { holding.cli with heard := true }
          ps := { holding.ps with phase := ph, attempts := att }
          pva := { holding.pva with
            peers := peers, tally := [(5, drops)]
            intent := { holding.pva.intent with lastAge := some 0, firstAt := some 0 } } }
    let row (s : State) : HeadState × Half × List (Nat × Nat) :=
      let t := run (.ownSlotArrival 0 false) s
      (t.ps.head, t.jp.flags, t.ps.deferred)
    holding.js.holdMark (holding.js.part 0) = some 1 ∧ cell.releaseAttempts = 2
    ∧ [ late 0 0 [] .rough none, late 0 0 near .rough none, late 0 1 [] .rough none, late 4000000 0 near .rough none
      , late 4000000 0 near .release none, late 4000000 0 near .release (some 1) ].map row
      = [ (.releasing, 0, []), (.waitRelease, 0, []), (.unthreading, 0x0006, []), (.unthreading, 0x0002, [(0, 1)])
        , (.unthreading, 0, [(0, 1)]), (.unthreading, 0x0006, []) ] := by decide +kernel
/-- The release answer with the link LOST or in NO_SLOT, in SOLO beside a neighbour, and with the queue full. -/
theorem witness_Release_by_link :
    let near : Memory Peer := [(1, { Peer.never with live := .fresh, head := 3, zone := 5 })]
    let row (m : LineMode) (quiet n drops : Nat) (peers : Memory Peer) (ph : Phase) (q : List QueueEntry) :
        HeadState × Activity × Stage :=
      let t := run (.ownSlotArrival 0 false) (queueing q .erase 0 false { holding with
        now := n, cli := { holding.cli with mode := m, heard := false, quiet := quiet }
        ps := { holding.ps with phase := ph, attempts := some 1 }
        pva := { holding.pva with
          peers := peers, tally := [(5, drops)]
          intent := { holding.pva.intent with lastAge := some 0, firstAt := some 0 } } })
      (t.ps.head, t.ps.activity, t.tu.stage)
    let held (r : RecState) (defer : Bool) (k : Follow) : Activity :=
      .recordWait { part := 0, state := r, zone := 5, defer := defer } k false
    [ row .active 15 0 0 [] .rough [], row .noSlot 0 0 1 [] .rough [], row .stuck 15 4000000 0 [] .rough []
    , row .solo 0 4000000 0 near .rough [], row .active 0 0 1 [] .rough fullQueue
    , row .active 0 4000000 0 near .rough fullQueue, row .active 0 4000000 0 near .release fullQueue ]
      = [ (.waitRelease, .waitRelease, .threaded), (.unthreading, .unthreading, .unthread)
        , (.unthreading, .unthreading, .unthread), (.releasing, .passing, .threaded)
        , (.unthreading, held .held false .unthread, .threaded), (.unthreading, held .tabbed true .unthread, .threaded)
        , (.unthreading, held .held false .unthreadRunning, .unthread) ] := by decide +kernel
theorem witness_FrameSentOrCut : (sending true).cli.sending = some { frame := sampleFrame, live := true }
    ∧ (run (.frameSent 9) (sending true)).pva.intent.ageToSend = 4
    ∧ (run (.frameSent 9) (sending false)).pva.intent.ageToSend = 1 := by decide +kernel
theorem witness_Frames : receives idle.cli.mode = true ∧ idle.cli.sending = none ∧ idle.cfg.cellSize = 2
    ∧ idle.cli.station = 0
    ∧ ([frameFrom 0, frameFrom 1, frameFrom 2].all fun b => Burst.goodForm b) = true
    ∧ Burst.goodForm { halves := true :: true :: (frameFrom 1).halves.drop 2, ownDrove := false } = false
    ∧ (run (.frameReceived 100 (frameFrom 0)) idle).cli.dup = 1
    ∧ (run (.frameReceived 100 (frameFrom 2)) idle).cli.stray = 1
    ∧ ((run (.frameReceived 100 (frameFrom 1)) idle).pva.peer 1).live = .fresh
    ∧ (run (.frameReceived 100 (frameFrom 1)) idle).cli.nextSlot = some 155
    ∧ Memory.wf Peer.never idle.pva.peers = true := by decide +kernel
/-- Frames of station 1 over an entry: cumulative, attributed, errors, the tally of zone 5, and PLATE_FOREIGN; by a first
hearing, foreign or not, a step of 0, of 1 without and with a zone, of 127 and of 128, a change of plate away and back. -/
theorem witness_releases_counted :
    let row (e : Peer) (count : BitVec 8) (plate : Half) (valid : Bool) : Nat × Nat × Nat × Nat × Half :=
      let t := run (.frameReceived 100
          (burstOf { sampleFrame with station := 1, count := count, plate := plate, lastValid := valid }))
        { idle with pva := { PeerView.reset with peers := [(1, e)] } }
      ((t.pva.peer 1).cumulative, (t.pva.peer 1).attributed, t.pva.errors, Memory.read 0 t.pva.tally 5, t.jp.flags)
    let e := entry .fresh 3 3 1
    let foreign : Peer := { e with isForeign := true }
    [ row (entry .absent 3 3 1) 9 4117 true, row Peer.never 9 7 true, row e 3 4117 true, row e 4 4117 false
    , row (entry .fresh 3 0 0) 4 4117 true, row e 130 4117 true, row e 131 4117 true, row e 4 7 true, row foreign 4 7 true
    , row foreign 4 4117 true ]
      = [ (9, 0, 0, 0, 0), (0, 0, 0, 0, 0x8000), (3, 1, 0, 0, 0), (4, 1, 0, 0, 0), (1, 1, 0, 1, 0), (130, 2, 0, 1, 0)
        , (3, 1, 1, 0, 0), (3, 1, 0, 0, 0x8000), (3, 1, 0, 0, 0), (4, 0, 0, 0, 0) ] := by decide +kernel
/-- Re-alignment with no arrival yet, and put off by one round after an arrival at 120. -/
theorem witness_realigned :
    let s (l : Option Nat) : State := { idle with cli := { idle.cli with lastSlot := l } }
    [none, some 27, some 28, some 120].map (fun l => (run (.frameReceived 100 (frameFrom 1)) (s l)).cli.nextSlot)
      = [some 155, some 155, some 411, some 411] ∧ (100 + 1 * 128 - 73, 155 + 2 * 128) = (155, 411) := by decide +kernel
/-- A valid frame in NO_SLOT leaves the slot timer, and one in a re-listening leaves one own slot to listen to. -/
theorem witness_heard_by_mode :
    let s (m : LineMode) : State := { idle with cli := { idle.cli with
      mode := m, station := if m = .noSlot then 3 else 0, listenLeft := 2, quiet := 5 } }
    [.noSlot, .listen, .stuck].map (fun m =>
        let t := run (.frameReceived 100 (frameFrom 1)) (s m)
        ((t.pva.peer 1).live, t.cli.quiet, t.cli.nextSlot, t.cli.listenLeft))
      = [(.fresh, 0, some 128, 2), (.fresh, 0, some 155, 1), (.fresh, 0, some 155, 2)] := by decide +kernel
/-- STUCK_CLEAR is due a round, 256 ticks, after the release and not before, and not while the pair is driven. -/
theorem witness_Stuck_due :
    let s (r : Option Nat) (n : Nat) : State :=
      { inLine .stuck idle with now := n, cli := { (inLine .stuck idle).cli with releasedAt := r } }
    [Safety.due .stuckClear (s (some 10) 266), Safety.due .stuckClear (s (some 10) 265),
      Safety.due .stuckClear (s none 9999)] = [true, false, false]
    ∧ (run .lineStuckTimeout idle).cli.mode = .stuck := by decide +kernel
/-- LINE_STUCK_TIMEOUT is due after more than 400 ticks of the pair driven, and not before or with the pair released. -/
theorem witness_Stuck_driven :
    let s (d : Option Nat) (n : Nat) : State := { idle with now := n, cli := { idle.cli with stuckTimer := d } }
    [Safety.due .lineStuckTimeout (s (some 10) 410), Safety.due .lineStuckTimeout (s (some 10) 411),
      Safety.due .lineStuckTimeout (s none 9999), Safety.due .lineStuckTimeout (run .lineStuckTimeout (s none 9999))]
      = [false, true, false, true] ∧ (run .lineStuckTimeout (inLine .stuck idle)).jp.flags = 0x0400 := by decide +kernel
theorem witness_StuckLine : idle.cli.sending = none ∧ (inLine .noSlot idle).cli.mode = .noSlot
    ∧ (run .stuckClear (inLine .stuck idle)).cli.mode = .listen := by decide +kernel
theorem witness_Stuck_ignored :
    [.solo, .off].map (fun m => run .lineStuckTimeout (inLine m idle)) = [inLine .solo idle, inLine .off idle] := by
  decide +kernel
theorem witness_UpdateStages :
    let e : QueueEntry := { word := 0, value := 6, mark := false }
    let s (wr : Half) (r : Bool) := queueing [e] .write wr r idle
    (run .eraseEnd (queueing [e] .erase 0 false idle)).prs.writing = 6
      ∧ (run (.writeEnd 2) (s 2 false)).prs.writing = 6 ∧ (run (.writeEnd 5) (s 6 false)).prs.retried = true
      ∧ (run (.writeEnd 6) (s 6 false)).prs.queue = []
      ∧ (run (.writeEnd 5) (s 6 true)).jp.flags = 0x0100
      ∧ (run (.writeEnd 5) (inJob .halted (s 6 true))).ps.marker = true := by decide +kernel
/-- The entry removed after a second mismatch, the last one and with one behind it; NEW_PLATE going on over a marked entry
and ended; and the waiting sources served at the freed place. -/
theorem witness_Update_completes :
    let e : QueueEntry := { word := 0, value := 6, mark := false }
    let done (q : List QueueEntry) (rb : Half) (s : State) : List Nat × UpdateStage × Option Nat × Half :=
      let t := run (.writeEnd rb) (queueing (e :: q) .write 6 true s)
      (t.prs.queue.map (·.word), t.prs.stage, t.prs.feed, t.jp.flags)
    let served (s : State) : State := run (.writeEnd 6) (queueing (e :: fullQueue.drop 1) .write 6 true s)
    [ done [] 5 idle, done [⟨1, 9, true⟩] 5 idle, done [⟨1, 9, true⟩] 6 (feeding 65 idle)
    , done [⟨1, 9, false⟩] 6 (feeding 65 idle), done [] 6 (feeding 65 idle) ]
      = [ ([], .none, none, 0x0100), ([1], .erase, none, 0x0100), ([1], .erase, some 65, 0), ([1], .erase, none, 0)
        , ([], .none, none, 0) ]
    ∧ (served (heldBack .unthread false)).ps.activity = waitingRecord .unthread true
    ∧ (served (heldBack .unthread false)).prs.queue.map (·.word) = [11, 12, 13, 14, 15, 16, 17, 0]
    ∧ (served (withArm (.waiting 2 false))).js.arm = .waiting 2 true
    ∧ (served (withArm (.waiting 2 false))).prs.queue.map (·.word) = [11, 12, 13, 14, 15, 16, 17, 2] := by decide +kernel
/-- RECORD_WAIT_END by what follows the update, joined before or now, in RUNNING and in HALTED, and with the queue full. -/
theorem witness_Record_wait_rows :
    let s (k : Follow) (joined : Bool) (st : Stage) : State :=
      let x := doing (waitingRecord k joined) (threading st)
      { x with ps := { x.ps with scan := 1 } }
    let row (x : State) : Activity × JobState × Nat :=
      let t := run .recordWaitEnd x
      (t.ps.activity, t.ps.job, t.prs.queue.length)
    [ s .loadRough false .threaded, s .threadAgain true .idle, s .unthread false .threaded, s .unthread true .idle
    , s .nextPart false .idle, s .unthreadRunning true .unthread, queueing fullQueue .erase 0 false (s .nextPart false .idle)
    ].map row
      = [ (.passing, .running, 1), (.waitThread .startHoleAgain, .running, 0), (.unthreading, .running, 1), (.none, .done, 0)
        , (.none, .done, 1), (.unthreading, .running, 0), (waitingRecord .nextPart false, .running, 8) ]
    ∧ [ s .loadRough false .threaded, s .threadAgain true .idle, s .unthread false .threaded, s .nextPart false .idle
      , s .unthreadRunning true .unthread ].map (fun x => row (stopped x))
      = [ (.recordJoined .loadRough, .halted, 1), (.recordJoined .threadAgain, .halted, 0)
        , (.recordJoined .unthread, .halted, 1), (.boundary, .halted, 1), (.unthreading, .halted, 0) ] := by decide +kernel
theorem witness_RecordWaitEnds :
    let s := doing (waitingRecord .loadRough true) (threading .threaded)
    s.ps.activity = waitingRecord .loadRough true ∧ s.ps.current = some 0
      ∧ (run .recordWaitEnd s).ps.head = .cutting
      ∧ (run .recordWaitEnd (stopped s)).ps.activity = .recordJoined .loadRough := by decide +kernel
/-! ## What the statements say of shared operations -/

/-- A step on each axis inside the range and past both limits: the coordinates, the direction lines and the pulses. -/
theorem witness_issued_step :
    let at' (x y : Int) : PathEngine := { PathEngine.reset with posX := x, posY := y, dirX := true }
    let row (pe : PathEngine) : Int × Int × Bool × Bool × Nat × Nat :=
      (pe.posX, pe.posY, pe.dirX, pe.dirY, pe.pulsesX, pe.pulsesY)
    [ issueStep xUp (at' 4 9), issueStep ⟨.x, false⟩ (at' 4 9), issueStep yUp (at' 4 9), issueStep ⟨.y, false⟩ (at' 4 9)
    , issueStep xUp (at' 1048575 9), issueStep ⟨.y, false⟩ (at' 4 (-1048575)) ].map row
      = [ (5, 9, true, false, 1, 0), (3, 9, false, false, 1, 0), (4, 10, true, true, 0, 1), (4, 8, true, false, 0, 1)
        , (1048575, 9, true, false, 1, 0), (4, -1048575, true, false, 0, 1) ] := by decide +kernel
/-- Ageing: not heard at 1, 2, 14, 15 and 16 missed rounds, heard after 5, and never heard. -/
theorem witness_aged :
    let p (l : Liveness) (missed : Nat) (heard : Bool) : Peer :=
      { entry l 0 0 0 with missed := missed, heard := heard }
    let row (e : Peer) : Nat × Liveness × Bool := (e.aged.missed, e.aged.live, e.aged.heard)
    [ p .fresh 1 false, p .fresh 2 false, p .stale 14 false, p .stale 15 false, p .absent 16 false, p .stale 5 true
    , { Peer.never with heard := true } ].map row
      = [ (2, .fresh, false), (3, .stale, false), (15, .stale, false), (16, .absent, false), (16, .absent, false)
        , (0, .fresh, false), (0, .never, true) ] := by decide +kernel
/-- A peer waiting for the jet, then one waiting for its release in zone 5, against the own age 4 of station 1: STALE and
young, older, of equal age below and above the own number, younger, ABSENT, foreign. The last counts for the jet alone. -/
theorem witness_ahead :
    let p (h : BitVec 4) (l : Liveness) (age : BitVec 4) (foreign : Bool) : Peer :=
      { Peer.never with live := l, head := h, zone := 5, age := age, isForeign := foreign }
    let s : State := { holding with cli := { holding.cli with station := 1 } }
    let peers (h : BitVec 4) : Memory Peer :=
      [ (0, p h .stale 0 false), (2, p h .fresh 5 false), (0, p h .fresh 4 false), (2, p h .fresh 4 false)
      , (0, p h .fresh 3 false), (0, p h .absent 9 false), (0, p h .fresh 9 true) ]
    (peers 2).map (countsForJet 1 4) = [true, true, true, false, false, false, true]
      ∧ (peers 6).map (blocksRelease s 4) = [true, true, true, false, false, false, false]
      ∧ (peers 3).map (blocksRelease s 4) = [true, true, true, true, true, false, false]
      ∧ (peers 3).map (countsForJet 1 4) = [true, true, true, true, true, false, true] := by decide +kernel
/-- The unattributed total: of a peer heard, of an ABSENT one, and of none that is foreign or was never heard. -/
theorem witness_unattributed :
    let foreign : Peer := { entry .fresh 0 9 2 with isForeign := true }
    unattributed { PeerView.reset with peers :=
      [(1, entry .fresh 0 9 2), (2, entry .absent 0 5 1), (3, foreign), (4, entry .never 0 7 0)] } = 11 := by
  decide +kernel
/-- The effective feed under the limit 3000 at Ts 180 and Gt 400: SHORT, NORMAL at Ts, below Gt and at Gt, OPEN; and the
same at level 6 of 12. -/
theorem witness_feeds :
    let s (gf recovery : Nat) (c : GapClass) : State :=
      let t := cutting 20000 10000 0 0 0 none
      { t with gc := { t.gc with acc := 8 * gf, cls := c }, eg := { primary := 12, recovery := recovery } }
    [ s 100 0 .short, s 180 0 .normal, s 290 0 .normal, s 399 0 .normal, s 400 0 .normal, s 900 0 .openGap
    , s 290 1 .normal, s 400 1 .normal ].map effectiveFeed = [0, 0, 1500, 2986, 3000, 3000, 750, 1500] := by
  decide +kernel
/-- The mark pointer at a pass load: the first mark not yet fired, and after the HOLD mark in a release pass, which fires
the marks up to it. -/
theorem witness_mark_pointer :
    let fired (f : BitVec 256) (s : State) : State := { s with pe := { s.pe with fired := f } }
    let row (s : State) : Option Nat × BitVec 256 := (s.pe.markPtr, s.pe.fired)
    [loadRoughPass (fired 0 (head .threading .passing armed)), loadRoughPass (fired 3 (head .threading .passing armed)), loadRoughPass (fired 7 (head .threading .passing armed))].map row
      = [(some 0, 0), (some 2, 3), (none, 7)]
    ∧ [loadReleasePass (fired 0 holding), loadReleasePass (fired 0x104 holding)].map row
      = [(some 2, 3), (none, 0x107)]
    ∧ ((run .wireOkRise (threading .capture)).pe.markPtr, (run .wireOkRise (threading .capture)).pe.stepTimer)
      = (some 0, some 0) := by decide +kernel
/-- Record words both ways: each state with zone 63, the codes 0 and 7, and a bit of 15 to 9 set. -/
theorem witness_record_words :
    [RecState.uncut, .cutting, .tabbed, .released, .held, .abandoned].map (fun r => (recordWord r 63).toNat)
      = [505, 506, 507, 508, 509, 510]
    ∧ [RecState.uncut, .cutting, .tabbed, .released, .held, .abandoned].all (fun r =>
        decide (recordState (recordWord r 63) = r) && decide (recordZone (recordWord r 63) = 63)) = true
    ∧ [(0x01F8 : Half), 0x01FF, 0x0204, 0x8001].map recordState = List.replicate 4 .unknown := by decide +kernel
/-- The tally rebuilt from three RELEASED records, two of them of zone 5, and one TABBED of zone 5. -/
theorem witness_rebuilt_tally :
    let s : State := { starting with prs := { starting.prs with
      nv := [(0, 0x002C), (1, 0x002B), (2, 0x002C), (63, 0x01FC)] } }
    let t := run (.startUpCompletion 0) s
    (t.pva.tally, t.ps.ownCount) = ([(5, 2), (63, 1)], 3) := by decide +kernel
/-- The entries of the job of 01_the_job_tables.md as they are read, and a coordinate below 0. -/
theorem witness_entries_read :
    let js := idle.js
    (js.plate, js.partCount, js.segmentCount, js.markCount) = (4117, 1, 3, 3)
    ∧ js.part 0 = { policy := 0, zone := 5, eprim := 12, fmax := 3000, startX := 20000, startY := 10000, firstSeg := 0
                    segCount := 3, firstMark := 0, markCount := 3 }
    ∧ js.segment 1 = { kind := 2, endX := 20000, endY := 10005, cenX := 20000, cenY := 10000 }
    ∧ js.mark 2 = { kind := 2, offset := 1, value := 1500, relSeg := 2 }
    ∧ ((changed [(0x0041, 0x001FFFFF), (0x0042, 0x00100000)]).js.part 0).startX = -1
    ∧ ((changed [(0x0041, 0x001FFFFF), (0x0042, 0x00100000)]).js.part 0).startY = -1048576 := by decide +kernel
/-- An update that joins in place, at the tail, into an empty queue, where it begins at once, and at a full one not. -/
theorem witness_joins :
    let r (q : List QueueEntry) : RecordStore := { idle.prs with queue := q }
    let row (x : RecordStore) : List Nat × UpdateStage := (x.queue.map (·.word), x.stage)
    [(r [⟨0, 1, false⟩, ⟨3, 1, false⟩]).join 9 3 6 false, (r [⟨0, 1, false⟩]).join 9 3 6 false, (r []).join 9 3 6 false
    , (r fullQueue).join 9 3 6 false].map row
      = [([0, 3], .none), ([0, 3], .none), ([3], .erase), (fullQueue.map (·.word), .none)] := by decide +kernel

/-! ## The walk over failing budgets -/

/-- A walk from a part boundary, by the order that makes it. -/
def walked (c : Instr) (code : Nat) (s : State) : Activity × JobState × HeadState × Half :=
  let t := run c (ordered code 0 s)
  (t.ps.activity, t.ps.job, t.ps.head, t.jp.flags)

/-- RESUME at a boundary in the release phase: a failing budget HELD and the job DONE, a deferred part taken up, a failing
deferred part HELD, the wait of a full queue with the head PARKED, a record fault marked meanwhile, and no part left. -/
theorem witness_Resume_walks :
    let s (drops : Nat) (d : List (Nat × Nat)) (q : List QueueEntry) (marker : Bool) : State :=
      let t := queueing q .erase 0 false (tabbed drops armed)
      stopped (doing .boundary { t with ps := { t.ps with phase := .release, deferred := d, marker := marker } })
    let held : PartUpdate := { part := 0, state := .held, zone := 5, defer := false }
    [ s 1 [] [] false, s 0 [(0, 2)] [] false, s 1 [(0, 2)] [] false, s 1 [] fullQueue false, s 1 [] [] true ].map
        (walked .resume orderResume)
      = [ (.none, .done, .idle, 0x0007), (.traversing .releaseKerf, .running, .traverse, 0)
        , (.none, .done, .idle, 0x0007)
        , (.recordWait held .nextPart false, .running, .parked, 0)
        , (.boundary, .halted, .parked, 0x0006) ]
    ∧ walked .resume orderResume (stopped (doing .boundary { armed with ps := { armed.ps with
        phase := .rough, scan := 1 } })) = (.none, .done, .idle, 0x0001) := by decide +kernel
/-- START after an ABORT at a full queue waits with the head PARKED. -/
theorem witness_Start_waits_parked :
    let s := queueing fullQueue .erase 0 false (tabbed 1 armed)
    (walked .start orderStart { s with ps := { s.ps with head := .parked } }).2.2.1 = .parked := by decide +kernel
/-- RESUME after a record wait that has joined: a new threading, an unthread with no wire, the next part. -/
theorem witness_Resume_joined :
    let s (k : Follow) : State := stopped (doing (.recordJoined k) (threading .idle))
    let last (k : Follow) : State := { s k with ps := { (s k).ps with scan := 1 } }
    let waits (k : Follow) : State := stopped (doing (waitingRecord k true) (threading .idle))
    [s .threadAgain, waits .threadAgain, last .unthread, last .nextPart, waits .nextPart].map
        (fun x => ((walked .resume orderResume x).1, (walked .resume orderResume x).2.2.1))
      = [ (.waitThread .startHoleAgain, .waitThread), (.waitThread .startHoleAgain, .waitThread), (.none, .idle)
        , (.none, .idle), (.traversing .startHole, .traverse) ]
    ∧ (run .resume (ordered orderResume 0 (s .threadAgain))).pva.intent = newIntent .thread 0 := by decide +kernel

/-! ## Invariants -/

/-- The bounds hold of the idle state too, and a step is taken there. -/
theorem witness_bounds_kept : Safety.QueueOk idle ∧ Safety.GapOk idle ∧ Safety.PositionOk idle
    ∧ step idle = .next (tick idle) := by
  refine ⟨?_, ?_, ?_, rfl⟩
  · unfold Safety.QueueOk; decide
  · unfold Safety.GapOk; decide +kernel
  · unfold Safety.PositionOk; decide
theorem witness_stores_kept : Safety.StoresOk armed ∧ Safety.CountersOk armed ∧ Safety.PeersOk armed
    ∧ Safety.ListsOk armed := by
  refine ⟨?_, ?_, ?_, ?_⟩
  · unfold Safety.StoresOk; decide +kernel
  · unfold Safety.CountersOk; decide +kernel
  · unfold Safety.PeersOk; intro e he; cases he
  · refine ⟨by decide, fun h => absurd rfl h, fun h => Bool.noConfusion h⟩

end Sys2Proof.Tests
end

/-! PROOFS. Check 1 and what an ARM that fails it leaves (R8, R10, R11); check 3 of a part with no mark (R13). -/

namespace Sys2Proof.Machine

open Sys2Proof.Statements

/-! ## The checks -/

theorem inRange_eq_true_iff (lo hi n : Nat) : inRange lo hi n = true ↔ lo ≤ n ∧ n ≤ hi := by simp [inRange]

theorem inRange_eq_false_iff (lo hi n : Nat) : inRange lo hi n = false ↔ ¬ (lo ≤ n ∧ n ≤ hi) := by
  rw [← inRange_eq_true_iff, Bool.not_eq_true]

/-- A failing check 1 is the first failure: nothing is derived and no other check is made (R10). -/
theorem runChecks_of_checkHeader {js : JobStore} {e : ArmError × Nat} (c : Params) (stored : Nat)
    (h : checkHeader js = some e) : runChecks c stored js = (js, some e) := by
  simp only [runChecks, h]

/-- Each part names 1 to 8 marks inside the mark count, so none passes where the job has no mark (R11, R13). -/
theorem partPasses_of_markCount_zero {js : JobStore} (c : Params) (p : Nat) (h : js.markCount = 0) :
    partPasses c js p = false := by
  rw [Bool.eq_false_iff]
  intro hp
  simp only [partPasses, Bool.and_eq_true, decide_eq_true_eq, inRange_eq_true_iff] at hp
  omega

/-- Check 3 fails at part 0 when that part does (R13). -/
theorem checkParts_of_first_fails {c : Params} {js : JobStore} (hn : 1 ≤ js.partCount)
    (h : partPasses c js 0 = false) : checkParts c js = some (.badPart, 0) := by
  obtain ⟨n, hn⟩ : ∃ n, js.partCount = n + 1 := ⟨js.partCount - 1, by omega⟩
  simp [checkParts, hn, List.range_succ_eq_map, h]

/-! ## An ARM that check 1 ends -/

/-- An ARM order in DISARMED or DONE, with no NEW_PLATE under way, begins the ARM (R8). -/
theorem exec_arm_accepted {s : State} (ho : OrderArrives orderArm s)
    (hj : s.ps.job = .disarmed ∨ s.ps.job = .done) (hf : s.prs.feed = none) :
    exec .arm s = .next (recordAnswer .accepted (beginArm (marked .order s))) := by
  obtain ⟨hpower, hmarker, hcode⟩ := ho
  have hrule : armRule (marked .order s) = (.accepted, beginArm (marked .order s)) := by
    rcases hj with hj | hj <;> simp [armRule, marked, RecordStore.busy, hj, hf]
  show execArm s = _
  rw [execArm, orderEdge_ready hpower hmarker hcode, hrule]

/-- An ARM whose check 1 fails stands in ARMING with the failure for its own row, and has derived nothing (R10). -/
theorem beginArm_of_checkHeader {s : State} {e : ArmError} {idx : Nat} (h : checkHeader s.js = some (e, idx)) :
    beginArm s = { s with
      ps := { s.ps with job := .arming, held := [] }
      pe := { s.pe with engine := .standby, fired := 0 }
      js := { s.js with armErr := .none, armIdx := 0, arm := .failing e idx } } := by
  -- the counts are read from the memory, which clearing the last error leaves as it was
  have hc : checkHeader { s.js with armErr := .none, armIdx := 0 } = some (e, idx) := h
  simp only [beginArm, State.setPe_js, State.setPs_js, runChecks_of_checkHeader _ _ hc]
  rfl

/-- ARM_CHECK_FAILED ends an ARM that stands at a failed check (R10). -/
theorem exec_armCheckFailed {s : State} {e : ArmError} {idx : Nat} (hj : s.ps.job = .arming)
    (ha : s.js.arm = .failing e idx) :
    exec .armCheckFailed s =
      .next (raiseFlag flagArmFailed (endArm .disarmed (s.setJs { s.js with armErr := e, armIdx := idx }))) := by
  show execArmCheckFailed s = _
  simp only [execArmCheckFailed, hj, ha]

end Sys2Proof.Machine

namespace Sys2Proof.Proofs

open Sys2Proof.Machine Sys2Proof.Statements

/-- Settles O17: check 1 is its own table of ranges, ARM and ARM_CHECK_FAILED are run one after the other, and with no
mark in the job part 0 already fails check 3. -/
theorem headerCounts : Obligations.HeaderCounts := by
  refine ⟨fun js => ?_, fun s idx ho hj hf hc => ?_, fun c js hn hm => ?_⟩
  · simp only [checkHeader, inRange_eq_false_iff]
  · have hbegin := beginArm_of_checkHeader (s := marked .order s) hc
    refine ⟨_, _, exec_arm_accepted ho hj hf, exec_armCheckFailed (e := .badHeader) (idx := idx) ?_ ?_, ?_⟩
    all_goals rw [hbegin]
    · rfl
    · rfl
    · exact ⟨rfl, rfl, rfl, rfl, rfl, rfl⟩
  · exact checkParts_of_first_fails hn (partPasses_of_markCount_zero c 0 hm)

end Sys2Proof.Proofs

/-! PROOFS. The position orders SET_POSITION_X and SET_POSITION_Y (R23, R202). -/

namespace Sys2Proof.Machine

open Sys2Proof.Statements

theorem coordOk_iff (c : Int) : coordOk c = true ↔ -1048575 ≤ c ∧ c ≤ 1048575 := by
  rw [coordOk, Bool.and_eq_true, decide_eq_true_eq, decide_eq_true_eq, Config.coordLimit]

/-- The answer to an order taken leaves the rest of the state to the order's effect (R196, R202). -/
theorem recordAnswer_marked (a : Answer) (s : State) : recordAnswer a (marked .order s) = answeredOnly a s := rfl

/-- Before the start-up completion the edge of a defined order leaves the refusal alone (R202). -/
theorem orderEdge_answeredOnly_starting {code : Nat} {rule : State → Answer × State} {s : State}
    (hp : s.power = .starting) (hm : s.jp.marker = false) (hc : orderCode s.jp.word = code) :
    orderEdge code rule s = answeredOnly .refusedStarting s := by
  rw [orderEdge_starting hp hm hc, recordAnswer_marked]

/-- A position order that is taken, whichever coordinate `put` sets: the engine is asked first, then the argument's
range (R23). -/
theorem orderEdge_setPosition {code : Nat} {put : Int → PathEngine → PathEngine} {s : State}
    (ho : OrderArrives code s) :
    orderEdge code (setPositionRule put) s =
      if s.pe.engine ≠ .idle then answeredOnly .refusedBusy s
      else if -1048575 ≤ orderCoord s.jp.word ∧ orderCoord s.jp.word ≤ 1048575 then
        answeredOnly .accepted (s.setPe (put (orderCoord s.jp.word) s.pe))
      else answeredOnly .refusedArg s := by
  obtain ⟨hpower, hmarker, hcode⟩ := ho
  have hpe : (marked .order s).pe = s.pe := rfl
  have hword : (marked .order s).jp.word = s.jp.word := rfl
  rw [orderEdge_ready hpower hmarker hcode, setPositionRule, hpe, hword]
  by_cases hengine : s.pe.engine = .idle
  · rw [if_neg (not_not_intro hengine), if_neg (not_not_intro hengine)]
    by_cases hrange : -1048575 ≤ orderCoord s.jp.word ∧ orderCoord s.jp.word ≤ 1048575
    · rw [if_pos ((coordOk_iff _).2 hrange), if_pos hrange]
      rfl
    · rw [if_neg (mt (coordOk_iff _).1 hrange), if_neg hrange]
      rfl
  · rw [if_pos hengine, if_pos hengine]
    rfl

end Sys2Proof.Machine

namespace Sys2Proof.Proofs

open Sys2Proof.Machine Sys2Proof.Statements

/-- Settles O14: both orders run one rule, which differs in the coordinate it sets alone. -/
theorem setPosition : Obligations.SetPosition := by
  intro s c
  refine ⟨fun hpower hmarker => ⟨fun hcode => ?_, fun hcode => ?_⟩, fun ho => ?_, fun ho => ?_⟩
  · exact congrArg _ (orderEdge_answeredOnly_starting hpower hmarker hcode)
  · exact congrArg _ (orderEdge_answeredOnly_starting hpower hmarker hcode)
  · exact congrArg _ (orderEdge_setPosition ho)
  · exact congrArg _ (orderEdge_setPosition ho)

end Sys2Proof.Proofs

/-! PROOFS. The shift registers of ADDR-IN and WORD-IN (R197). -/

namespace Sys2Proof.Machine

open Sys2Proof.Statements

/-! ## A run of bits -/

/-- Read as a number, a shift doubles the register and adds the bit, in the register's width. -/
theorem shiftIn_ofNat (n k : Nat) (b : Bool) :
    shiftIn (BitVec.ofNat n k) b = BitVec.ofNat n (2 * k + b.toNat) := by
  -- the place the shift frees is 0, so that entering the bit there is an addition
  have hfree : (BitVec.ofNat n k <<< 1) &&& (BitVec.ofBool b).setWidth n = 0#n := by
    ext i hi
    cases i <;> simp
  rw [shiftIn, ← BitVec.add_eq_or_of_and_eq_zero _ _ hfree]
  apply BitVec.eq_of_toNat_eq
  simp [Nat.shiftLeft_eq, Nat.mul_comm]

/-- Bits spelt behind a number move it up by their count. -/
theorem foldl_bits_from (k : Nat) (bs : List Bool) :
    bs.foldl (fun acc b => 2 * acc + b.toNat) k = k * 2 ^ bs.length + bitsToNat bs := by
  induction bs generalizing k with
  | nil => simp [bitsToNat]
  | cons b bs ih =>
    have htail : bitsToNat (b :: bs) = b.toNat * 2 ^ bs.length + bitsToNat bs := by
      rw [bitsToNat, List.foldl_cons, ih, Nat.mul_zero, Nat.zero_add]
    rw [List.foldl_cons, ih, htail, List.length_cons]
    ring

/-- A run of shifts leaves what the register held with the run's bits behind it, in the register's width (R197). -/
theorem foldl_shiftIn {n : Nat} (bs : List Bool) (r : BitVec n) :
    bs.foldl shiftIn r = BitVec.ofNat n (r.toNat * 2 ^ bs.length + bitsToNat bs) :=
  calc bs.foldl shiftIn r
      = bs.foldl shiftIn (BitVec.ofNat n r.toNat) := by rw [BitVec.ofNat_toNat, BitVec.setWidth_eq]
    _ = BitVec.ofNat n (bs.foldl (fun acc b => 2 * acc + b.toNat) r.toNat) :=
        List.foldl_hom (BitVec.ofNat n) (shiftIn_ofNat n)
    _ = _ := by rw [foldl_bits_from]

/-! ## One edge -/

/-- An ADDR-IN edge after reset release shifts the address register and touches nothing outside the port (R197). -/
theorem exec_addrIn_awake {s : State} (h : Awake s) (b : Bool) :
    exec (.addrIn b) s = .next { s with jp := { s.jp with
      lastMode := .addrIn, jdat := none, addr := shiftIn s.jp.addr b } } := by
  show execAddrIn b s = _
  rw [execAddrIn, edge_awake ((portAwake_iff s).2 h)]
  rfl

/-- A WORD-IN edge after reset release shifts the port word and touches nothing outside the port (R197). -/
theorem exec_wordIn_awake {s : State} (h : Awake s) (b : Bool) :
    exec (.wordIn b) s = .next { s with jp := { s.jp with
      lastMode := .wordIn, jdat := none, word := shiftIn s.jp.word b } } := by
  show execWordIn b s = _
  rw [execWordIn, edge_awake ((portAwake_iff s).2 h)]
  rfl

end Sys2Proof.Machine

namespace Sys2Proof.Proofs

open Sys2Proof.Machine Sys2Proof.Statements

/-- Settles O6: each edge is taken as its mode gives it, and a run of shifts is one fact for every width. -/
theorem shiftIn : Obligations.ShiftIn :=
  ⟨fun b _ h => ⟨exec_addrIn_awake h b, exec_wordIn_awake h b⟩, fun bs => ⟨foldl_shiftIn bs, foldl_shiftIn bs⟩⟩

end Sys2Proof.Proofs

/-! PROOFS. The event flags bit by bit, and the CLEAR_FLAGS order (R203, R204). -/

namespace Sys2Proof.Machine

open Sys2Proof.Statements

/-! ## One flag -/

/-- Setting a flag sets its own bit and keeps the others (R203). -/
theorem getLsbD_withFlag (flags : Half) {b c : Nat} (hc : c < 16) :
    (withFlag flags b).getLsbD c = (flags.getLsbD c || decide (c = b)) := by
  have hbit : (1#16 <<< b).getLsbD c = decide (c = b) := by
    rw [← BitVec.twoPow_eq, BitVec.getLsbD_twoPow, ← Bool.decide_and, decide_eq_decide]
    omega
  rw [withFlag, BitVec.getLsbD_or, hbit]

/-- A flag is kept by a CLEAR_FLAGS exactly where its mask bit is 0 (R204). -/
theorem getLsbD_clearFlagBits (flags mask : Half) (c : Nat) :
    (clearFlagBits flags mask).getLsbD c = (flags.getLsbD c && !mask.getLsbD c) := by
  rw [clearFlagBits, BitVec.getLsbD_and, BitVec.getLsbD_not]
  by_cases hc : c < 16
  · simp [hc]
  · rw [BitVec.getLsbD_of_ge flags c (by omega), Bool.false_and, Bool.false_and]

/-- A masked flag reads clear whatever was set just before the order (R204). -/
theorem getLsbD_clearFlagBits_of_masked {flags mask : Half} {c : Nat} (hm : mask.getLsbD c = true) :
    (clearFlagBits flags mask).getLsbD c = false := by
  rw [getLsbD_clearFlagBits, hm, Bool.not_true, Bool.and_false]

/-- A flag reads set after its event, whatever was cleared just before (R203, R204). -/
theorem getLsbD_withFlag_self (flags : Half) {c : Nat} (hc : c < 16) : (withFlag flags c).getLsbD c = true := by
  rw [getLsbD_withFlag flags hc, decide_eq_true rfl, Bool.or_true]

/-! ## The order -/

/-- A CLEAR_FLAGS order that is taken is accepted in every job state, with the port's low half as its mask (R204). -/
theorem exec_clearFlags_taken {s : State} (ho : OrderArrives orderClearFlags s) :
    exec .clearFlags s = .next { s with jp := { portAfter .accepted s.jp with
      flags := clearFlagBits s.jp.flags (orderHalf s.jp.word) } } := by
  obtain ⟨hpower, hmarker, hcode⟩ := ho
  show execClearFlags s = _
  rw [execClearFlags, orderEdge_ready hpower hmarker hcode]
  rfl

end Sys2Proof.Machine

namespace Sys2Proof.Proofs

open Sys2Proof.Machine Sys2Proof.Statements

/-- Settles O12: the order's mask is the port's low half, and the clauses on the order of an event and the clearing
read each operation at one bit. -/
theorem clearFlagsClears : Obligations.ClearFlagsClears := by
  refine ⟨fun s ho => exec_clearFlags_taken ho, fun flags mask b => ⟨?_, fun hm => ?_, ?_⟩⟩
  · exact getLsbD_clearFlagBits flags mask b
  · exact getLsbD_clearFlagBits_of_masked hm
  · exact getLsbD_withFlag_self _ b.isLt

end Sys2Proof.Proofs

/-! PROOFS. What every step keeps: the queue of commands and the bounds of Safety. Each operation of the model is shown
once to keep them all, and the operations that follow one another by transitivity. -/

namespace Sys2Proof.Machine

open Sys2Proof.Safety

/-! ## The relation -/

/-- An operation leaves the commands waiting as they are, and every bound that holds before it holds after it. -/
structure Keeps (s t : State) : Prop where
  pending : t.pending = s.pending
  queue : QueueOk s → QueueOk t
  gap : GapOk s → GapOk t
  position : PositionOk s → PositionOk t
  lists : ListsOk s → ListsOk t
  peers : PeersOk s → PeersOk t
  counters : CountersOk s → CountersOk t
  stores : StoresOk s → StoresOk t

theorem Keeps.refl (s : State) : Keeps s s := ⟨rfl, id, id, id, id, id, id, id⟩

theorem Keeps.trans {s t u : State} (h : Keeps s t) (h' : Keeps t u) : Keeps s u :=
  ⟨h'.pending.trans h.pending, h'.queue ∘ h.queue, h'.gap ∘ h.gap, h'.position ∘ h.position, h'.lists ∘ h.lists,
    h'.peers ∘ h.peers, h'.counters ∘ h.counters, h'.stores ∘ h.stores⟩

/-- The same with the later operation first, so that the state between is read off it. -/
theorem Keeps.after {s t u : State} (h' : Keeps t u) (h : Keeps s t) : Keeps s u := h.trans h'

theorem Keeps.ite {s t u : State} {p : Prop} [Decidable p] (ht : Keeps s t) (hu : Keeps s u) :
    Keeps s (if p then t else u) := by
  split
  · exact ht
  · exact hu

/-- A result that is a next state, which keeps the bounds. -/
def Answers (s : State) (r : Result) : Prop := ∃ t, r = .next t ∧ Keeps s t

theorem Keeps.answers {s t : State} (h : Keeps s t) : Answers s (.next t) := ⟨t, rfl, h⟩

theorem Answers.ite {s t u : State} {p : Prop} [Decidable p] (ht : Keeps s t) (hu : Keeps s u) :
    Answers s (if p then .next t else .next u) := by
  split
  · exact ht.answers
  · exact hu.answers

/-! ## One block at a time -/

theorem keeps_setPower (s : State) (p : Power) : Keeps s (s.setPower p) := ⟨rfl, id, id, id, id, id, id, id⟩

theorem keeps_setEg (s : State) (b : Energy) : Keeps s (s.setEg b) := ⟨rfl, id, id, id, id, id, id, id⟩

theorem keeps_setJp (s : State) (b : JobPort) : Keeps s (s.setJp b) := ⟨rfl, id, id, id, id, id, id, id⟩

theorem keeps_atTime (t : Nat) (s : State) : Keeps s (s.atTime t) := ⟨rfl, id, id, id, id, id, id, id⟩

theorem keeps_setCfg {s : State} {c : Params} (h : c.tOpen ≤ 1023) : Keeps s (s.setCfg c) :=
  ⟨rfl, id, fun g => ⟨g.1, h⟩, id, id, id, id, id⟩

theorem keeps_setJs {s : State} {b : JobStore} (hmem : Memory.wf 0#32 s.js.mem = true → Memory.wf 0#32 b.mem = true)
    (hlen : Memory.wf 0 s.js.lengths = true → Memory.wf 0 b.lengths = true)
    (hhold : Memory.wf (0, 0) s.js.holds = true → Memory.wf (0, 0) b.holds = true) : Keeps s (s.setJs b) :=
  ⟨rfl, id, id, id, id, id, id, fun ⟨h1, h2, h3, h4⟩ => ⟨hmem h1, hlen h2, hhold h3, h4⟩⟩

/-- The engine with its position in range. -/
theorem keeps_setPe_of_position {s : State} {b : PathEngine} (h : PositionOk s → PositionOk (s.setPe b)) :
    Keeps s (s.setPe b) := ⟨rfl, id, id, h, id, id, id, id⟩

/-- The engine with its position as it was. -/
theorem keeps_setPe {s : State} {b : PathEngine} (hx : b.posX = s.pe.posX) (hy : b.posY = s.pe.posY) :
    Keeps s (s.setPe b) :=
  keeps_setPe_of_position fun h => by simpa only [PositionOk, State.setPe_pe, hx, hy] using h

theorem keeps_setGc {s : State} {b : GapControl} (hacc : GapOk s → b.acc ≤ 8184)
    (hlists : ListsOk s → ListsOk (s.setGc b)) : Keeps s (s.setGc b) :=
  ⟨rfl, id, fun g => ⟨hacc g, g.2⟩, id, hlists, id, id, id⟩

/-- Gap Control with the stack empty and no retract step asked for, the log no longer than it was. -/
theorem keeps_setGc_cleared {s : State} {b : GapControl} (hacc : GapOk s → b.acc ≤ 8184)
    (hlog : b.log.length ≤ s.gc.log.length) (hredo : b.redo = []) (hasked : b.asked = false) :
    Keeps s (s.setGc b) :=
  keeps_setGc hacc fun ⟨hlen, _, _⟩ =>
    ⟨by simp only [State.setGc_gc, hredo, List.length_nil]; omega, fun h => absurd hredo h,
      fun h => absurd (hasked.symm.trans h) (by decide)⟩

/-- Gap Control in a mode of a retract episode with its lists as they were; a retract step is asked for in RETRACTING
alone. -/
theorem keeps_setGc_episode {s : State} {b : GapControl} (hacc : b.acc = s.gc.acc) (hlog : b.log = s.gc.log)
    (hredo : b.redo = s.gc.redo) (hmode : inEpisode b.mode) (hasked : b.asked = true → b.mode = .retracting) :
    Keeps s (s.setGc b) :=
  keeps_setGc (fun g => hacc ▸ g.1) fun ⟨hlen, _, _⟩ =>
    ⟨by rw [State.setGc_gc, hlog, hredo]; exact hlen, fun _ => hmode, hasked⟩

/-- Gap Control with its lists, its mode and the step asked for as they were. -/
theorem keeps_setGc_lists_same {s : State} {b : GapControl} (hacc : GapOk s → b.acc ≤ 8184)
    (hlog : b.log = s.gc.log) (hredo : b.redo = s.gc.redo) (hmode : b.mode = s.gc.mode)
    (hasked : b.asked = s.gc.asked) : Keeps s (s.setGc b) :=
  keeps_setGc hacc fun h => by simpa only [ListsOk, State.setGc_gc, hlog, hredo, hmode, hasked] using h

theorem keeps_setTu {s : State} {b : ThreadUnit} (h : s.tu.failed ≤ 8 → b.failed ≤ 8) : Keeps s (s.setTu b) :=
  ⟨rfl, id, id, id, id, id, fun ⟨h1, h2, h3, h4, h5, h6, h7⟩ => ⟨h1, h2, h3, h4, h5, h6, h h7⟩, id⟩

theorem keeps_setPs {s : State} {b : Sequencer}
    (h : Memory.wf Held.dropped s.ps.held = true → Memory.wf Held.dropped b.held = true) : Keeps s (s.setPs b) :=
  ⟨rfl, id, id, id, id, id, id, fun ⟨h1, h2, h3, h4, h5, h6, h7⟩ => ⟨h1, h2, h3, h4, h5, h6, h h7⟩⟩

theorem keeps_setCli {s : State} {b : CellLine} (h : CountersOk s → CountersOk (s.setCli b)) : Keeps s (s.setCli b) :=
  ⟨rfl, id, id, id, id, id, h, id⟩

/-- The line with its counters as they were. -/
theorem keeps_setCli_counters_same {s : State} {b : CellLine} (hcol : b.collision = s.cli.collision)
    (hcrc : b.crc = s.cli.crc) (hdup : b.dup = s.cli.dup) (hstray : b.stray = s.cli.stray)
    (hquiet : b.quiet = s.cli.quiet) : Keeps s (s.setCli b) :=
  keeps_setCli fun h => by
    simpa only [CountersOk, State.setCli_cli, State.setCli_pva, State.setCli_tu, hcol, hcrc, hdup, hstray, hquiet]
      using h

theorem keeps_setPva {s : State} {b : PeerView} (hpeers : PeersOk s → ∀ e ∈ b.peers, PeerOk e.2)
    (herr : s.pva.errors ≤ 65535 → b.errors ≤ 65535)
    (htally : Memory.wf 0 s.pva.tally = true → Memory.wf 0 b.tally = true)
    (hwf : Memory.wf Peer.never s.pva.peers = true → Memory.wf Peer.never b.peers = true) : Keeps s (s.setPva b) :=
  ⟨rfl, id, id, id, id, hpeers, fun ⟨h1, h2, h3, h4, h5, h6⟩ => ⟨h1, h2, h3, h4, herr h5, h6⟩,
    fun ⟨h1, h2, h3, h4, h5, h6, h7⟩ => ⟨h1, h2, h3, h4, htally h5, hwf h6, h7⟩⟩

theorem keeps_setPrs {s : State} {b : RecordStore} (hq : queueFits s.prs → queueFits b)
    (hnv : Memory.wf 0#16 s.prs.nv = true → Memory.wf 0#16 b.nv = true) : Keeps s (s.setPrs b) :=
  ⟨rfl, hq, id, id, id, id, id, fun ⟨h1, h2, h3, h4, h5⟩ => ⟨h1, h2, h3, hnv h4, h5⟩⟩

theorem keeps_raiseFlag (b : Nat) (s : State) : Keeps s (raiseFlag b s) := keeps_setJp _ _

/-! ## The words of the array -/

theorem beginUpdate_wf {now : Nat} {r : RecordStore} (h : Memory.wf 0#16 r.nv = true) :
    Memory.wf 0#16 (r.beginUpdate now).nv = true := by
  unfold RecordStore.beginUpdate
  split
  · exact h
  · exact memory_wf_write h _ _

theorem join_wf {now w : Nat} {v : Half} {mk : Bool} {r : RecordStore} (h : Memory.wf 0#16 r.nv = true) :
    Memory.wf 0#16 (r.join now w v mk).nv = true := by
  unfold RecordStore.join
  split_ifs
  · exact h
  · exact beginUpdate_wf (r := { r with queue := _ }) h
  · exact h
  · exact h

theorem feedOne_wf {now : Nat} {r : RecordStore} (h : Memory.wf 0#16 r.nv = true) :
    Memory.wf 0#16 (r.feedOne now).nv = true := by
  unfold RecordStore.feedOne
  split
  · exact h
  · split
    · exact join_wf h
    · exact h

theorem feedAll_wf {now : Nat} (n : Nat) {r : RecordStore} (h : Memory.wf 0#16 r.nv = true) :
    Memory.wf 0#16 (r.feedAll now n).nv = true := by
  induction n generalizing r with
  | zero => exact h
  | succ n ih => exact ih (feedOne_wf h)

theorem endNewPlate_wf {r : RecordStore} (h : Memory.wf 0#16 r.nv = true) : Memory.wf 0#16 r.endNewPlate.nv = true := by
  unfold RecordStore.endNewPlate
  split <;> exact h

/-! ## The sequence -/

theorem keeps_showHead (h : HeadState) (s : State) : Keeps s (showHead h s) :=
  (Keeps.refl s).ite (keeps_setPs id)

theorem keeps_setActivity (a : Activity) (s : State) : Keeps s (setActivity a s) := keeps_setPs id

theorem keeps_queueUpdate (u : PartUpdate) (s : State) : Keeps s (queueUpdate u s) := keeps_setPrs join_fits join_wf

theorem keeps_setIntent (s : State) (i : Intent) : Keeps s (s.setPva { s.pva with intent := i }) :=
  keeps_setPva id id id id

theorem keeps_addTally (zone : Nat) (s : State) : Keeps s (s.setPva (addTally zone s.pva)) :=
  keeps_setPva id id (fun h => memory_wf_write h _ _) id

theorem keeps_countRelease (zone : Nat) (s : State) : Keeps s (countRelease zone s) :=
  (keeps_setPs (b := { s.ps with ownCount := s.ps.ownCount + 1, lastRelease := some zone }) id).trans
    (keeps_addTally zone _)

theorem keeps_noteUpdate (u : PartUpdate) (s : State) : Keeps s (noteUpdate u s) := by
  have hheld := (keeps_setPs (s := s) (b := { s.ps with
      held := Memory.write Held.dropped u.part (.state u.state) s.ps.held
      deferred := if u.defer then s.ps.deferred ++ [(u.part, 1)] else s.ps.deferred })
    fun h => memory_wf_write h _ _).trans (keeps_setJp _ { s.jp with flags := resultFlags u.state s.jp.flags })
  exact Keeps.ite (hheld.trans (keeps_countRelease _ _)) hheld

theorem keeps_beginIntent (k : IntentKind) (s : State) : Keeps s (beginIntent k s) := keeps_setIntent _ _

theorem keeps_endIntent (s : State) : Keeps s (endIntent s) :=
  (keeps_setIntent s _).trans (keeps_setCli_counters_same rfl rfl rfl rfl rfl)

theorem keeps_announceIntent (a : Nat) (s : State) : Keeps s (announceIntent a s) := keeps_setIntent _ _

theorem keeps_enterWaitThread (p : Purpose) (s : State) : Keeps s (enterWaitThread p s) :=
  (keeps_setPs (b := { s.ps with head := .waitThread, activity := .waitThread p }) id).trans (keeps_beginIntent _ _)

theorem keeps_enterWaitRelease (s : State) : Keeps s (enterWaitRelease s) :=
  (keeps_setPs (b := { s.ps with head := .waitRelease, activity := .waitRelease }) id).trans (keeps_beginIntent _ _)

theorem keeps_arrive (p : Purpose) (s : State) : Keeps s (arrive p s) :=
  (keeps_setPe (b := { s.pe with engine := .standby, traverse := none, stepTimer := none }) rfl rfl).trans
    (keeps_enterWaitThread p _)

theorem keeps_requestTraverse (target : Int × Int) (p : Purpose) (s : State) :
    Keeps s (requestTraverse target p s) :=
  Keeps.ite (keeps_arrive p s) (Keeps.after (keeps_setPs id) (keeps_setPe rfl rfl))

theorem keeps_startPass {k : PassKind} {p : Nat} {pe : PathEngine} {s : State} (hx : pe.posX = s.pe.posX)
    (hy : pe.posY = s.pe.posY) : Keeps s (startPass k p pe s) :=
  Keeps.after (keeps_setGc_cleared (fun g => g.1) (Nat.le_refl _) rfl rfl)
    (Keeps.after (keeps_setEg _ _) (keeps_setPe hx hy))

theorem keeps_loadRoughPass (s : State) : Keeps s (loadRoughPass s) := by
  unfold loadRoughPass
  split
  · exact Keeps.refl s
  · exact Keeps.after (keeps_setPs id) (keeps_startPass rfl rfl)

theorem keeps_loadReleasePass (s : State) : Keeps s (loadReleasePass s) := by
  unfold loadReleasePass
  split
  · exact Keeps.refl s
  · dsimp only
    split
    · exact Keeps.refl s
    · exact Keeps.after (keeps_setPs id) (keeps_startPass rfl rfl)

theorem keeps_haltForRecord (s : State) : Keeps s (haltForRecord s) := keeps_setPs id

theorem keeps_completePhase (s : State) : Keeps s (completePhase s) :=
  Keeps.ite (keeps_haltForRecord s)
    (Keeps.after (keeps_raiseFlag _ _) (Keeps.after (keeps_setPe rfl rfl) (keeps_setPs fun _ => rfl)))

theorem keeps_enterRecordWait (u : PartUpdate) (k : Follow) (s : State) : Keeps s (enterRecordWait u k s) :=
  keeps_setActivity _ s

theorem keeps_takeRough (p : Nat) (s : State) : Keeps s (takeRough p s) :=
  Keeps.after (keeps_requestTraverse _ _ _) (keeps_setPs id)

theorem keeps_takeRelease (p : Nat) (a : Option Nat) (s : State) : Keeps s (takeRelease p a s) :=
  Keeps.after (keeps_requestTraverse _ _ _) (keeps_setPs id)

theorem keeps_of_chooseRelease {s s' : State} {p : Nat} {a : Option Nat} (h : chooseRelease s = some (p, a, s')) :
    Keeps s s' := by
  unfold chooseRelease at h
  split at h
  · cases h; exact keeps_setPs id
  · split at h
    · cases h
    · cases h; exact keeps_setPs id

theorem keeps_walk (n : Nat) (s : State) : Keeps s (walk n s) := by
  induction n generalizing s with
  | zero => exact Keeps.refl s
  | succ n ih =>
    unfold walk
    split
    · exact Keeps.refl s
    · split
      · exact keeps_takeRough _ s
      · exact Keeps.after (ih _) (keeps_setPs id)
    · split
      · exact keeps_completePhase s
      · next p a s1 hchoose =>
        refine (keeps_of_chooseRelease hchoose).trans (Keeps.ite (keeps_takeRelease p a s1) ?_)
        refine (keeps_setPs (b := { s1.ps with takenZone := (s1.js.part p).zone }) id).trans (Keeps.ite ?_ ?_)
        · exact Keeps.after (Keeps.ite (keeps_haltForRecord _) (ih _))
            (Keeps.after (keeps_noteUpdate _ _) (keeps_queueUpdate _ _))
        · exact Keeps.after (keeps_enterRecordWait _ _ _) (keeps_setPs id)

theorem keeps_partBoundary (s : State) : Keeps s (partBoundary s) :=
  Keeps.ite (keeps_haltForRecord s) (Keeps.ite (keeps_walk _ s) (keeps_setActivity _ s))

theorem keeps_unitUnthread (s : State) : Keeps s (unitUnthread s) := Keeps.ite (keeps_setTu id) (Keeps.refl s)

theorem keeps_requestUnthread (s : State) : Keeps s (requestUnthread s) :=
  Keeps.ite (keeps_partBoundary s)
    (((keeps_unitUnthread s).trans (keeps_setActivity _ _)).trans (keeps_showHead _ _))

theorem keeps_followUp (k : Follow) (s : State) : Keeps s (followUp k s) := by
  cases k with
  | loadRough => exact keeps_loadRoughPass s
  | threadAgain => exact keeps_enterWaitThread _ s
  | unthread => exact keeps_requestUnthread s
  | unthreadRunning => exact (keeps_setActivity _ s).trans (keeps_showHead _ _)
  | nextPart => exact keeps_partBoundary s

theorem keeps_settle (u : PartUpdate) (k : Follow) (h : HeadState) (s : State) : Keeps s (settle u k h s) :=
  Keeps.ite (((keeps_queueUpdate u s).trans (keeps_noteUpdate u _)).trans (keeps_followUp k _))
    ((keeps_showHead h s).trans (keeps_enterRecordWait _ _ _))

theorem keeps_endPass (s : State) : Keeps s (endPass s) :=
  (keeps_setPe (b := unloadPass s.pe) rfl rfl).trans (keeps_setGc_cleared (fun g => g.1) (Nat.le_refl _) rfl rfl)

theorem keeps_holdEvent (s : State) : Keeps s (holdEvent s) := by
  unfold holdEvent
  split
  · exact Keeps.refl s
  · exact Keeps.ite (keeps_settle _ _ _ s) (Keeps.ite (keeps_settle _ _ _ s)
      (Keeps.ite (keeps_enterWaitRelease s) (Keeps.refl s)))

theorem keeps_contourEnd (s : State) : Keeps s (contourEnd s) := by
  unfold contourEnd
  split
  · exact Keeps.refl s
  · exact keeps_settle _ _ _ s


/-! ## Cutting -/

/-- A step issued keeps the coordinates in range, whatever else of the engine it moves on. -/
theorem keeps_setPe_issued {s : State} {st : PathStep} {pe b : PathEngine}
    (hp : pe.posX = s.pe.posX ∧ pe.posY = s.pe.posY)
    (hb : b.posX = (issueStep st pe).posX ∧ b.posY = (issueStep st pe).posY) : Keeps s (s.setPe b) := by
  refine keeps_setPe_of_position fun ⟨hx1, hx2, hy1, hy2⟩ => ?_
  obtain ⟨hx, hy⟩ := issueStep_position st pe
  have hX := clampCoord_range (moveBy st.pos pe.posX)
  have hY := clampCoord_range (moveBy st.pos pe.posY)
  rw [PositionOk, State.setPe_pe, hb.1, hb.2, hx, hy, hp.1, hp.2]
  rw [hp.1] at hX
  rw [hp.2] at hY
  cases st.axis
  · exact ⟨hX.1, hX.2, hy1, hy2⟩
  · exact ⟨hx1, hx2, hY.1, hY.2⟩

theorem advanceProgress_position (len : Nat) (pe : PathEngine) :
    (advanceProgress len pe).posX = pe.posX ∧ (advanceProgress len pe).posY = pe.posY := by
  unfold advanceProgress
  split <;> exact ⟨rfl, rfl⟩

theorem retreatProgress_position (len : Nat) (pe : PathEngine) :
    (retreatProgress len pe).posX = pe.posX ∧ (retreatProgress len pe).posY = pe.posY := by
  unfold retreatProgress
  split <;> exact ⟨rfl, rfl⟩

theorem keeps_enginesForward (st : PathStep) (s : State) : Keeps s (s.setPe (enginesForward st s)) :=
  keeps_setPe_issued (st := st) (pe := s.pe) ⟨rfl, rfl⟩ (advanceProgress_position _ _)

theorem keeps_enginesBack (st : PathStep) (s : State) : Keeps s (s.setPe (enginesBack st s)) :=
  keeps_setPe_issued (st := st.reverse) (pe := s.pe) ⟨rfl, rfl⟩ (retreatProgress_position _ _)

theorem keeps_fireMark (m : Nat) (s : State) : Keeps s (fireMark m s) := keeps_setPe rfl rfl

theorem keeps_checkMark (s : State) : Keeps s (checkMark s) := by
  unfold checkMark
  split
  · exact Keeps.refl s
  · next m mk _ =>
    refine (keeps_fireMark m s).trans (Keeps.ite (keeps_setEg _ _) (Keeps.ite ?_ (Keeps.ite ?_ (Keeps.refl _))))
    · exact keeps_setGc_lists_same (fun g => g.1) rfl rfl rfl rfl
    · exact Keeps.after (keeps_holdEvent _) (keeps_endPass _)

theorem keeps_checkContour (s : State) : Keeps s (checkContour s) :=
  Keeps.ite (Keeps.ite (Keeps.after (keeps_contourEnd _) (keeps_endPass s)) (keeps_endPass s)) (Keeps.refl s)

theorem keeps_afterForward (s : State) : Keeps s (afterForward s) :=
  Keeps.after (keeps_checkContour _) (Keeps.after (keeps_checkMark _) (keeps_setEg s _))

/-- A retract step moves an entry from the log to the stack, which only RETRACTING lets it do. -/
theorem keeps_retractOnce {s : State} (h : ListsOk s → s.gc.mode = .retracting) : Keeps s (retractOnce s) := by
  unfold retractOnce
  split
  · exact Keeps.refl s
  · next st rest hlog =>
    refine Keeps.after (keeps_setGc (fun g => g.1) fun hl => ?_) (keeps_enginesBack st s)
    obtain ⟨hlen, hredo, hasked⟩ := hl
    refine ⟨?_, fun _ => Or.inl (h ⟨hlen, hredo, hasked⟩), fun ha => nomatch ha⟩
    rw [State.setPe_gc, hlog] at hlen
    simp only [State.setGc_gc, List.length_cons] at hlen ⊢
    omega

theorem keeps_completeAsked (s : State) : Keeps s (completeAsked s) := by
  unfold completeAsked
  split
  · next hasked => exact keeps_retractOnce fun ⟨_, _, hmode⟩ => hmode hasked
  · exact Keeps.refl s

theorem keeps_enterStall (s : State) : Keeps s (enterStall s) :=
  Keeps.after (keeps_showHead _ _)
    (keeps_setGc_episode rfl rfl rfl (Or.inr (Or.inr (Or.inl rfl))) fun hasked => nomatch hasked)

theorem keeps_beginRetract (s : State) : Keeps s (beginRetract s) :=
  Keeps.ite (keeps_enterStall s) (keeps_setGc_episode rfl rfl rfl (Or.inl rfl) fun _ => rfl)

theorem keeps_endEpisode {s : State} (h : s.gc.redo = []) : Keeps s (endEpisode s) :=
  Keeps.after (keeps_setEg _ _) (Keeps.after (keeps_setPe rfl rfl)
    (keeps_setGc_cleared (fun g => g.1) (Nat.le_refl _) h rfl))

theorem keeps_replayOrEnd (s : State) : Keeps s (replayOrEnd s) := by
  unfold replayOrEnd
  split
  · next h => exact keeps_endEpisode h
  · exact keeps_setGc_episode rfl rfl rfl (Or.inr (Or.inl rfl)) fun hasked => nomatch hasked

theorem keeps_endStall (s : State) : Keeps s (endStall s) := (keeps_showHead _ s).trans (keeps_replayOrEnd _)

theorem keeps_approach (s : State) : Keeps s (s.setGc (approach s.cfg s.gc)) :=
  keeps_setGc_lists_same (fun g => approach_acc s.gc g.2) rfl rfl rfl rfl

theorem keeps_stallRestart (s : State) : Keeps s (stallRestart s) := (keeps_approach s).trans (keeps_endStall _)

theorem keeps_gapOff (s : State) : Keeps s (s.setGc (gapOff s.gc)) :=
  keeps_setGc_cleared (fun g => g.1) (Nat.zero_le _) rfl rfl

theorem keeps_dropPass (s : State) : Keeps s (dropPass s) :=
  Keeps.after (keeps_setEg _ _) (Keeps.after (keeps_gapOff _)
    (Keeps.after (keeps_setPe rfl rfl) (keeps_completeAsked s)))

theorem keeps_actOnSample (s : State) : Keeps s (actOnSample s) := by
  unfold actOnSample
  split
  · exact Keeps.after (keeps_beginRetract _) (keeps_setPe rfl rfl)
  · exact keeps_beginRetract s
  · exact Keeps.after (keeps_replayOrEnd _) (keeps_completeAsked s)
  · exact Keeps.after (keeps_replayOrEnd _) (keeps_completeAsked s)
  · exact keeps_endStall s
  · exact keeps_endStall s
  · exact Keeps.refl s

theorem answers_traverseStep (s : State) : Answers s (execTraverseStep s) := by
  unfold execTraverseStep
  split
  · split
    · next st _ _ =>
      have hstep : Keeps s (s.setPe { issueStep st s.pe with stepTimer := some s.now }) :=
        keeps_setPe_issued ⟨rfl, rfl⟩ ⟨rfl, rfl⟩
      dsimp only
      split
      · exact Keeps.answers (hstep.trans (Keeps.ite (keeps_arrive _ _) (Keeps.refl _)))
      · exact hstep.answers
    · exact (Keeps.refl s).answers
  · exact (Keeps.refl s).answers

theorem answers_forwardCutStep (s : State) : Answers s (execForwardCutStep s) := by
  unfold execForwardCutStep
  split
  · next st hready _ =>
    have hmode : s.gc.mode = .feeding := by
      simp only [cutReady, Bool.and_eq_true, decide_eq_true_eq] at hready
      exact hready.1.1.2
    refine Keeps.answers (Keeps.after (keeps_afterForward _)
      (Keeps.after (keeps_setGc (fun g => g.1) fun hl => ?_) (keeps_enginesForward st s)))
    obtain ⟨_, hredo, hasked⟩ := hl
    -- in FEEDING the stack is empty, so that the log alone counts
    have hempty : s.gc.redo = [] := by
      by_contra hne
      have := hredo hne
      simp [inEpisode, hmode] at this
    refine ⟨?_, hredo, hasked⟩
    simp [hempty, logStep]
  · exact (Keeps.refl s).answers

theorem answers_gapSample (v : BitVec 10) (s : State) : Answers s (execGapSample v s) := by
  have hv : v.toNat < 1024 := v.isLt
  refine Answers.ite (Keeps.after (keeps_actOnSample _) ?_) (Keeps.refl s)
  exact keeps_setGc_lists_same (fun g => filterSample_acc g.1 (by omega)) rfl rfl rfl rfl

theorem answers_retractStep (s : State) : Answers s (execRetractStep s) := by
  unfold execRetractStep
  split
  · next h => exact ((keeps_retractOnce fun _ => h.1).trans (Keeps.ite (keeps_enterStall _) (Keeps.refl _))).answers
  · exact (Keeps.refl s).answers

theorem answers_replayStep (s : State) : Answers s (execReplayStep s) := by
  unfold execReplayStep
  split
  · exact (Keeps.refl s).answers
  · next st rest hredo =>
    split
    · next h =>
      have hstep : Keeps s ((s.setPe (enginesForward st s)).setGc
          { s.gc with log := logStep st s.gc.log, redo := rest, stepTimer := some s.now }) := by
        refine Keeps.after (keeps_setGc (fun g => g.1) fun hl => ?_) (keeps_enginesForward st s)
        obtain ⟨hlen, _, hasked⟩ := hl
        refine ⟨?_, fun _ => Or.inr (Or.inl h.1), hasked⟩
        simp only [State.setPe_gc, hredo, List.length_cons] at hlen
        simp only [State.setGc_gc, logStep, List.length_take, List.length_cons]
        omega
      refine ((hstep.trans (keeps_afterForward _)).trans ?_).answers
      split
      · next hend => exact keeps_endEpisode hend.2
      · exact Keeps.refl _
    · exact (Keeps.refl s).answers

theorem answers_stallTimerExpiry (s : State) : Answers s (execStallTimerExpiry s) := by
  unfold execStallTimerExpiry
  split
  · next h =>
    refine Keeps.answers (Keeps.after (keeps_raiseFlag _ _) (keeps_setGc (fun g => g.1) fun ⟨hlen, _, hasked⟩ => ?_))
    refine ⟨hlen, fun _ => Or.inr (Or.inr (Or.inr rfl)), fun ha => ?_⟩
    exact absurd (h.1.symm.trans (hasked ha)) (by decide)
  · exact (Keeps.refl s).answers

/-! ## Threading -/

theorem unitStart_failed (m : ThreadMode) (now : Nat) {tu : ThreadUnit} (h : tu.failed ≤ 8) :
    (unitStart m now tu).failed ≤ 8 := by
  unfold unitStart
  split
  · exact Nat.zero_le _
  all_goals exact h

theorem keeps_grantThread (p : Purpose) (s : State) : Keeps s (grantThread p s) :=
  Keeps.after (keeps_setPs id) (Keeps.after (keeps_setTu (unitStart_failed _ _)) (keeps_endIntent s))

theorem keeps_unitIdle (s : State) : Keeps s (s.setTu (unitIdle s.tu)) := keeps_setTu id

theorem keeps_restartPass (s : State) : Keeps s (restartPass s) :=
  Keeps.after (keeps_setPs id) (Keeps.after (keeps_setGc_cleared (fun g => g.1) (Nat.le_refl _) rfl rfl)
    (keeps_setPe rfl rfl))

theorem keeps_afterCapture (p : Purpose) (s : State) : Keeps s (afterCapture p s) := by
  unfold afterCapture
  split
  · exact keeps_settle _ _ _ s
  · exact keeps_settle _ _ _ s
  · exact Keeps.refl s
  · exact Keeps.refl s
  · exact keeps_enterWaitRelease s
  · exact keeps_enterWaitRelease s
  · exact keeps_restartPass s

theorem captureEngine_position (m : ThreadMode) (pe : PathEngine) :
    (captureEngine m pe).posX = pe.posX ∧ (captureEngine m pe).posY = pe.posY := by
  unfold captureEngine
  split <;> exact ⟨rfl, rfl⟩

theorem keeps_capture (s : State) : Keeps s (capture s) := by
  have hengine := captureEngine_position s.tu.mode s.pe
  have hunit : Keeps s (((s.setTu { s.tu with stage := .threaded, mode := .none, timer := none }).setPe
      (captureEngine s.tu.mode s.pe)).setGc { approach s.cfg s.gc with log := [] }) := by
    refine Keeps.after (keeps_setGc (fun g => approach_acc s.gc g.2) fun ⟨hlen, hredo, hasked⟩ => ?_)
      (Keeps.after (keeps_setPe hengine.1 hengine.2) (keeps_setTu id))
    refine ⟨?_, hredo, hasked⟩
    exact (Nat.add_le_add_right (Nat.zero_le _) _).trans hlen
  unfold capture
  dsimp only
  split
  · exact hunit.trans (keeps_afterCapture _ _)
  · exact hunit

theorem keeps_enterCapture (s : State) : Keeps s (enterCapture s) := Keeps.ite (keeps_capture s) (keeps_setTu id)

theorem keeps_enterFeed (s : State) : Keeps s (enterFeed s) := Keeps.ite (keeps_enterCapture s) (keeps_setTu id)

theorem keeps_enterJet (s : State) : Keeps s (enterJet s) := Keeps.ite (keeps_enterFeed s) (keeps_setTu id)

theorem keeps_failAttempt (s : State) : Keeps s (failAttempt s) := keeps_setTu fun _ => Nat.min_le_left _ _

theorem keeps_afterFailure (p : Purpose) (s : State) : Keeps s (afterFailure p s) := by
  unfold afterFailure
  have hpass : Keeps s (if p = .rethreadPass then dropPass s else s) := Keeps.ite (keeps_dropPass s) (Keeps.refl s)
  dsimp only
  split
  · exact hpass.trans (keeps_settle _ _ _ _)
  · exact hpass

theorem keeps_failThreading (s : State) : Keeps s (failThreading s) := by
  unfold failThreading
  have hunit := (keeps_unitIdle s).trans (keeps_raiseFlag flagThreadFail _)
  dsimp only
  split
  · exact hunit.trans (keeps_afterFailure _ _)
  · exact hunit

theorem keeps_breakPass (s : State) : Keeps s (breakPass s) :=
  Keeps.after (keeps_setEg _ _) (Keeps.after (keeps_setGc_cleared (fun g => g.1) (Nat.le_refl _) rfl rfl)
    (Keeps.after (keeps_setPe rfl rfl) (keeps_completeAsked s)))

theorem keeps_askRethread (p : Purpose) (s : State) : Keeps s (askRethread p s) :=
  Keeps.ite (keeps_enterWaitThread p s) (keeps_setActivity _ s)

theorem keeps_afterLoss (s : State) : Keeps s (afterLoss s) := by
  unfold afterLoss
  split
  · exact Keeps.after (keeps_askRethread _ _) (Keeps.after (keeps_raiseFlag _ _) (keeps_breakPass s))
  · exact Keeps.after (keeps_askRethread _ _) (Keeps.after (keeps_endIntent _) (keeps_raiseFlag _ s))
  · exact keeps_setActivity _ s
  · exact keeps_setActivity _ s
  · exact Keeps.refl s

theorem keeps_afterUnthread (s : State) : Keeps s (afterUnthread s) := by
  unfold afterUnthread
  split
  · exact keeps_partBoundary s
  · exact keeps_setActivity _ s
  · exact keeps_setActivity _ s
  · exact Keeps.refl s

theorem answers_severTimerExpiry (s : State) : Answers s (execSeverTimerExpiry s) :=
  Answers.ite (keeps_setTu id) (Keeps.refl s)

theorem answers_annealTimerExpiry (pickup : Bool) (s : State) : Answers s (execAnnealTimerExpiry pickup s) :=
  Answers.ite (Keeps.after (keeps_enterJet _) (keeps_setTu id)) (Keeps.refl s)

theorem answers_jetOkRise (pickup : Bool) (s : State) : Answers s (execJetOkRise pickup s) :=
  Answers.ite (Keeps.after (keeps_enterFeed _) (keeps_setTu id)) (keeps_setTu id)

theorem answers_jetTimeout (s : State) : Answers s (execJetTimeout s) :=
  Answers.ite (Keeps.after (keeps_raiseFlag _ _) (keeps_failAttempt s)) (Keeps.refl s)

theorem answers_pickupRise (s : State) : Answers s (execPickupRise s) :=
  Answers.ite (Keeps.after (keeps_enterCapture _) (keeps_setTu id)) (keeps_setTu id)

theorem answers_feedTimeout (s : State) : Answers s (execFeedTimeout s) :=
  Answers.ite (keeps_failAttempt s) (Keeps.refl s)

theorem answers_jetOkFall (s : State) : Answers s (execJetOkFall s) :=
  Answers.ite (Keeps.after (keeps_raiseFlag _ _) (Keeps.after (keeps_failAttempt _) (keeps_setTu id)))
    (keeps_setTu id)

theorem answers_wireOkRise (s : State) : Answers s (execWireOkRise s) :=
  Answers.ite (Keeps.after (keeps_capture _) (keeps_setTu id)) (keeps_setTu id)

theorem answers_captureTimeout (s : State) : Answers s (execCaptureTimeout s) :=
  Answers.ite (keeps_failAttempt s) (Keeps.refl s)

theorem answers_withdrawEnd (s : State) : Answers s (execWithdrawEnd s) :=
  Answers.ite (Keeps.ite (keeps_setTu id) (keeps_failThreading s)) (Keeps.refl s)

theorem answers_wireOkFall (s : State) : Answers s (execWireOkFall s) :=
  Answers.ite (Keeps.after (keeps_afterLoss _) (Keeps.after (keeps_unitIdle _) (keeps_setTu id)))
    (keeps_setTu id)

theorem answers_unthreadTimerExpiry (s : State) : Answers s (execUnthreadTimerExpiry s) :=
  Answers.ite (Keeps.after (keeps_afterUnthread _) (keeps_unitIdle s)) (Keeps.refl s)

end Sys2Proof.Machine

/-! PROOFS. What every step keeps, continued: the line, the ARM, the orders, the record store, the port and the resets;
and the statements on the bounds of Safety. -/

namespace Sys2Proof.Machine

open Sys2Proof.Safety

/-! ## The line and admission -/

theorem keeps_onDenied (s : State) : Keeps s (onDenied s) := by
  unfold onDenied
  split
  · exact Keeps.refl s
  · exact (keeps_endIntent s).trans (keeps_settle _ _ _ _)

theorem keeps_onExpiredRough (s : State) : Keeps s (onExpiredRough s) := by
  unfold onExpiredRough
  split
  · exact Keeps.refl s
  · exact (keeps_endIntent s).trans (keeps_settle _ _ _ _)

theorem keeps_onExpiredRelease (s : State) : Keeps s (onExpiredRelease s) := by
  unfold onExpiredRelease
  split
  · exact Keeps.refl s
  · refine (keeps_endIntent s).trans (Keeps.ite ?_ (Keeps.ite (keeps_settle _ _ _ _) ?_))
    · exact Keeps.after (keeps_requestUnthread _) (keeps_setPs id)
    · exact Keeps.after (keeps_settle _ _ _ _) (Keeps.after (keeps_showHead _ _) (keeps_unitUnthread _))

theorem keeps_actOnAnswer (v : Verdict) (s : State) : Keeps s (actOnAnswer v s) := by
  unfold actOnAnswer
  split
  · exact keeps_grantThread _ s
  · exact (keeps_endIntent s).trans (keeps_loadReleasePass _)
  · exact keeps_onDenied s
  · exact Keeps.ite (keeps_onExpiredRelease s) (keeps_onExpiredRough s)
  · exact Keeps.refl s

theorem keeps_answerSlot (s : State) : Keeps s (answerSlot s) := by
  unfold answerSlot
  split
  · exact keeps_actOnAnswer _ s
  · exact Keeps.refl s

theorem countUp_le (n : Nat) : countUp n ≤ 65535 := Nat.min_le_left _ _

theorem keeps_updateQuiet (s : State) : Keeps s (updateQuiet s) := by
  have hquiet : Keeps s (s.setCli (quietStep s.cli)) := by
    refine keeps_setCli fun ⟨h1, h2, h3, h4, h5, _, h7⟩ => ⟨h1, h2, h3, h4, h5, ?_, h7⟩
    simp only [State.setCli_cli, quietStep, saturate]
    split
    · exact Nat.zero_le _
    · exact Nat.min_le_left _ _
  exact Keeps.ite (Keeps.refl s) (Keeps.ite (hquiet.trans (keeps_raiseFlag _ _)) hquiet)

theorem keeps_collide (s : State) : Keeps s (s.setCli (collide s.cli)) :=
  keeps_setCli fun ⟨_, h2, h3, h4, h5, h6, h7⟩ => ⟨countUp_le _, h2, h3, h4, h5, h6, h7⟩

theorem keeps_sendFrame (driven : Bool) (s : State) : Keeps s (sendFrame driven s) :=
  Keeps.ite (keeps_collide s) (keeps_setCli_counters_same rfl rfl rfl rfl rfl)

theorem keeps_slotFrame (driven : Bool) (s : State) : Keeps s (slotFrame driven s) := by
  unfold slotFrame
  split
  · exact Keeps.refl s
  · exact Keeps.refl s
  · exact Keeps.ite (keeps_announceIntent _ s) (Keeps.refl s)
  · exact Keeps.ite (keeps_announceIntent _ s) (Keeps.refl s)
  · exact Keeps.ite (Keeps.after (keeps_sendFrame driven _) (keeps_setCli_counters_same rfl rfl rfl rfl rfl))
      (keeps_setCli_counters_same rfl rfl rfl rfl rfl)
  · exact keeps_sendFrame driven s
  · exact keeps_setCli_counters_same rfl rfl rfl rfl rfl

theorem keeps_noteDriven (driven : Bool) (s : State) : Keeps s (noteDriven driven s) :=
  Keeps.ite (keeps_setCli_counters_same rfl rfl rfl rfl rfl) (Keeps.refl s)

theorem keeps_nextRound (s : State) : Keeps s (nextRound s) := keeps_setCli_counters_same rfl rfl rfl rfl rfl

theorem keeps_agePeers (s : State) : Keeps s (s.setPva (agePeers s.pva)) := by
  refine keeps_setPva (fun h e he => ?_) id id (memory_wf_map _ fun _ => aged_ne_never)
  obtain ⟨e', he', rfl⟩ := List.mem_map.mp he
  exact aged_ok (h e' he')

theorem answers_ownSlotArrival (t : Nat) (driven : Bool) (s : State) : Answers s (execOwnSlotArrival t driven s) := by
  refine Answers.ite (Keeps.refl s) ?_
  have hfound := ((keeps_atTime t s).trans (keeps_updateQuiet _)).trans (keeps_agePeers _)
  exact (hfound.trans (keeps_answerSlot _)).trans
    (((keeps_noteDriven driven _).trans (keeps_slotFrame driven _)).trans (keeps_nextRound _))

theorem keeps_pairReleased (s : State) : Keeps s (s.setCli (pairReleased s.now s.cli)) :=
  keeps_setCli_counters_same rfl rfl rfl rfl rfl

theorem answers_frameSent (t : Nat) (s : State) : Answers s (execFrameSent t s) := by
  unfold execFrameSent
  split
  · exact (Keeps.refl s).answers
  · have hreleased : Keeps s ((s.atTime t).setCli
        { pairReleased (s.atTime t).now (s.atTime t).cli with sending := none }) :=
      (keeps_atTime t s).trans (keeps_setCli_counters_same rfl rfl rfl rfl rfl)
    exact Keeps.answers (Keeps.ite (hreleased.trans (keeps_announceIntent _ _)) hreleased)

theorem answers_readbackMismatch (s : State) : Answers s (execReadbackMismatch s) :=
  Answers.ite ((keeps_collide s).trans (keeps_setCli_counters_same rfl rfl rfl rfl rfl)) (Keeps.refl s)

theorem peer_ok {s : State} (h : PeersOk s) (n : Nat) : PeerOk (s.pva.peer n) := by
  rcases memory_read_cases (d := Peer.never) s.pva.peers n with hnever | hmem
  · rw [PeerView.peer, hnever]
    exact peerNever_ok
  · exact h _ hmem

theorem keeps_takeFrame (announced : Half) (f : Frame) (s : State) :
    Keeps s (s.setPva (s.pva.takeFrame announced f)) := by
  have hentry : Keeps s (s.setPva { s.pva with
      peers := Memory.write Peer.never f.station.toNat ((s.pva.peer f.station.toNat).afterFrame announced f) s.pva.peers
      errors := if fellBack announced f (s.pva.peer f.station.toNat) then countUp s.pva.errors
        else s.pva.errors }) := by
    refine keeps_setPva (fun h e he => ?_) (fun h => ?_) id (fun h => memory_wf_write h _ _)
    · rcases memory_mem_write he with hold | rfl
      · exact h e hold
      · exact afterFrame_ok (peer_ok h _)
    · dsimp only
      split
      · exact countUp_le _
      · exact h
  unfold PeerView.takeFrame
  dsimp only
  split
  · exact hentry.trans (keeps_addTally _ _)
  · exact hentry

theorem keeps_takeValid (f : Frame) (s : State) : Keeps s (takeValid f s) := by
  have hline : Keeps s ((s.setPva (s.pva.takeFrame s.prs.announced f)).setCli
      (hearFrame s.cfg s.now f.station.toNat s.cli)) :=
    (keeps_takeFrame _ f s).trans
      (keeps_setCli fun ⟨h1, h2, h3, h4, h5, _, h7⟩ => ⟨h1, h2, h3, h4, h5, Nat.zero_le _, h7⟩)
  exact Keeps.ite (hline.trans (keeps_raiseFlag _ _)) hline

theorem keeps_judgeFrame (f : Frame) (s : State) : Keeps s (judgeFrame f s) := by
  refine Keeps.ite ?_ (Keeps.ite (Keeps.after (keeps_raiseFlag _ _) ?_) (keeps_takeValid f s))
  · exact keeps_setCli fun ⟨h1, h2, h3, _, h5, h6, h7⟩ => ⟨h1, h2, h3, countUp_le _, h5, h6, h7⟩
  · exact keeps_setCli fun ⟨h1, h2, _, h4, h5, h6, h7⟩ => ⟨h1, h2, countUp_le _, h4, h5, h6, h7⟩

theorem keeps_judgeBurst (b : Burst) (s : State) : Keeps s (judgeBurst b s) := by
  refine Keeps.ite (Keeps.refl s) (Keeps.ite (keeps_judgeFrame _ s) ?_)
  exact keeps_setCli fun ⟨h1, _, h3, h4, h5, h6, h7⟩ => ⟨h1, countUp_le _, h3, h4, h5, h6, h7⟩

theorem keeps_burstEnds (s : State) : Keeps s (burstEnds s) := Keeps.ite (Keeps.refl s) (keeps_pairReleased s)

theorem answers_frameReceived (t : Nat) (b : Burst) (s : State) : Answers s (execFrameReceived t b s) :=
  Answers.ite (Keeps.refl s)
    (Keeps.after (keeps_judgeBurst b _) (Keeps.after (keeps_burstEnds _) (keeps_atTime t s)))

theorem answers_lineStuckTimeout (s : State) : Answers s (execLineStuckTimeout s) := by
  have hdriven {c : CellLine} (h1 : c.collision = s.cli.collision) (h2 : c.crc = s.cli.crc) (h3 : c.dup = s.cli.dup)
      (h4 : c.stray = s.cli.stray) (h5 : c.quiet = s.cli.quiet) : Keeps s (raiseFlag flagLineStuck (s.setCli c)) :=
    (keeps_setCli_counters_same h1 h2 h3 h4 h5).trans (keeps_raiseFlag _ _)
  unfold execLineStuckTimeout
  split
  · exact (Keeps.refl s).answers
  · split
    · exact (Keeps.refl s).answers
    · exact (Keeps.refl s).answers
    all_goals exact Keeps.answers (hdriven rfl rfl rfl rfl rfl)

theorem answers_stuckClear (s : State) : Answers s (execStuckClear s) :=
  Answers.ite (keeps_setCli_counters_same rfl rfl rfl rfl rfl) (Keeps.refl s)

theorem answers_threadWarningExpiry (s : State) : Answers s (execThreadWarningExpiry s) :=
  Answers.ite (Keeps.after (keeps_raiseFlag _ _) (keeps_setIntent s _)) (Keeps.refl s)

/-! ## The ARM -/

/-- A change of the derived values alone that keeps their canonical form, and the memory as it was (R9, R14, R17). -/
structure DerivedKept (js js' : JobStore) : Prop where
  mem : js'.mem = js.mem
  lengths : Memory.wf 0 js.lengths = true → Memory.wf 0 js'.lengths = true
  holds : Memory.wf (0, 0) js.holds = true → Memory.wf (0, 0) js'.holds = true

theorem DerivedKept.refl (js : JobStore) : DerivedKept js js := ⟨rfl, id, id⟩

theorem DerivedKept.trans {js js' js'' : JobStore} (h : DerivedKept js js') (h' : DerivedKept js' js'') :
    DerivedKept js js'' := ⟨h'.mem.trans h.mem, h'.lengths ∘ h.lengths, h'.holds ∘ h.holds⟩

theorem checkSegments_derivedKept (c : Params) (vs : List (Nat × Nat)) (js : JobStore) :
    DerivedKept js (checkSegments c vs js).1 := by
  induction vs generalizing js with
  | nil => exact DerivedKept.refl js
  | cons v vs ih =>
    unfold checkSegments
    dsimp only
    split
    · refine DerivedKept.trans ?_ (ih _)
      exact ⟨rfl, fun h => memory_wf_write h _ _, id⟩
    · exact DerivedKept.refl js

theorem checkMarks_derivedKept (vs : List (Nat × Nat)) (js : JobStore) : DerivedKept js (checkMarks vs js).1 := by
  induction vs generalizing js with
  | nil => exact DerivedKept.refl js
  | cons v vs ih =>
    unfold checkMarks
    dsimp only
    split
    · refine DerivedKept.trans ?_ (ih _)
      split
      · exact ⟨rfl, id, fun h => memory_wf_write h _ _⟩
      · exact DerivedKept.refl js
    · exact DerivedKept.refl js

theorem checkPaths_derivedKept (c : Params) (js : JobStore) : DerivedKept js (checkPaths c js).1 := by
  have hsegs := checkSegments_derivedKept c (segmentVisits js) js
  unfold checkPaths
  split
  · next js1 e h => rw [h] at hsegs; exact hsegs
  · next js1 h =>
    rw [h] at hsegs
    unfold checkArcsThenMarks
    split
    · exact hsegs
    · exact hsegs.trans (checkMarks_derivedKept _ js1)

theorem runChecks_derivedKept (c : Params) (stored : Nat) (js : JobStore) :
    DerivedKept js (runChecks c stored js).1 := by
  unfold runChecks
  split
  · exact DerivedKept.refl js
  · split
    · exact DerivedKept.refl js
    · split
      · exact DerivedKept.refl js
      · exact checkPaths_derivedKept c js

theorem keeps_setJs_derived {s : State} {b : JobStore} (h : DerivedKept s.js b) : Keeps s (s.setJs b) :=
  keeps_setJs (fun hm => h.mem ▸ hm) h.lengths h.holds

theorem keeps_setArm (a : ArmRun) (s : State) : Keeps s (setArm a s) := keeps_setJs id id id

theorem keeps_handOn (i : Nat) (h : Held) (s : State) : Keeps s (handOn i h s) :=
  keeps_setPs fun hw => memory_wf_write hw _ _

theorem keeps_queueAbandoned (i : Nat) (s : State) : Keeps s (queueAbandoned i s) := keeps_queueUpdate _ s

theorem keeps_readRecords (is : List Nat) (s : State) : Keeps s (readRecords is s) := by
  induction is generalizing s with
  | nil => exact keeps_setArm _ s
  | cons i is ih =>
    unfold readRecords
    split
    · exact Keeps.ite (Keeps.after (ih _) (Keeps.after (keeps_handOn _ _ _) (keeps_queueAbandoned i s)))
        (keeps_setArm _ s)
    · exact Keeps.after (ih _) (Keeps.after (keeps_raiseFlag _ _) (keeps_handOn _ _ s))
    all_goals exact (keeps_handOn _ _ s).trans (ih _)

/-- What the checks of an ARM accepted in a state find, and the derived values they leave (R10). -/
def armOutcome (s : State) : JobStore × Option (ArmError × Nat) :=
  runChecks s.cfg (s.prs.nvWord Config.plateWord).toNat { s.js with armErr := .none, armIdx := 0 }

/-- An accepted ARM as its checks leave it, its outcome not yet noted (R8, R10). -/
def armChecked (s : State) : State :=
  { s with
      ps := { s.ps with job := .arming, held := [] }
      pe := { s.pe with engine := .standby, fired := 0 }
      js := (armOutcome s).1 }

theorem beginArm_of_fails {s : State} {e : ArmError} {idx : Nat} (h : (armOutcome s).2 = some (e, idx)) :
    beginArm s = setArm (.failing e idx) (armChecked s) := by
  unfold armOutcome at h
  simp only [beginArm, State.setPe_cfg, State.setPe_prs, State.setPe_js, State.setPs_cfg, State.setPs_prs,
    State.setPs_js, h]
  rfl

theorem beginArm_of_passes {s : State} (h : (armOutcome s).2 = none) :
    beginArm s = readRecords (partsFrom (armOutcome s).1 0) (armChecked s) := by
  unfold armOutcome at h
  simp only [beginArm, State.setPe_cfg, State.setPe_prs, State.setPe_js, State.setPs_cfg, State.setPs_prs,
    State.setPs_js, h]
  rfl

theorem armOutcome_derivedKept (s : State) : DerivedKept s.js (armOutcome s).1 :=
  DerivedKept.trans (js' := { s.js with armErr := .none, armIdx := 0 }) ⟨rfl, id, id⟩ (runChecks_derivedKept _ _ _)

theorem keeps_armChecked (s : State) : Keeps s (armChecked s) :=
  Keeps.trans (t := (s.setPs { s.ps with job := .arming, held := [] }).setPe
    { s.pe with engine := .standby, fired := 0 })
    (Keeps.after (keeps_setPe rfl rfl) (keeps_setPs fun _ => rfl))
    (keeps_setJs_derived (b := (armOutcome s).1) (armOutcome_derivedKept s))

theorem keeps_beginArm (s : State) : Keeps s (beginArm s) := by
  cases h : (armOutcome s).2 with
  | some e =>
    rw [beginArm_of_fails h]
    exact (keeps_armChecked s).trans (keeps_setArm _ _)
  | none =>
    rw [beginArm_of_passes h]
    exact (keeps_armChecked s).trans (keeps_readRecords _ _)

theorem keeps_endArm (j : JobState) (s : State) : Keeps s (endArm j s) :=
  Keeps.after (keeps_setArm _ _) (Keeps.after (keeps_setPe rfl rfl) (keeps_setPs id))

theorem answers_armCheckFailed (s : State) : Answers s (execArmCheckFailed s) := by
  unfold execArmCheckFailed
  split
  · exact Keeps.answers (Keeps.after (keeps_raiseFlag _ _) (Keeps.after (keeps_endArm _ _) (keeps_setJs id id id)))
  · exact (Keeps.refl s).answers

theorem answers_armQueueWaitEnd (s : State) : Answers s (execArmQueueWaitEnd s) := by
  unfold execArmQueueWaitEnd
  split
  · exact Answers.ite (Keeps.after (keeps_readRecords _ _) (Keeps.after (keeps_handOn _ _ _)
      (Keeps.ite (Keeps.refl s) (keeps_queueAbandoned _ s)))) (Keeps.refl s)
  · exact (Keeps.refl s).answers

theorem answers_armSuccess (s : State) : Answers s (execArmSuccess s) :=
  Answers.ite (keeps_endArm _ s) (Keeps.refl s)

/-! ## The orders -/

theorem keeps_sampleEdge (m : PortMode) (s : State) : Keeps s (sampleEdge m s) := keeps_setJp s _

theorem keeps_oneShot {act : State → State} (m : PortMode) (h : ∀ s, Keeps s (act s)) (s : State) :
    Keeps s (oneShot m act s) :=
  (keeps_sampleEdge m s).trans (Keeps.ite (Keeps.refl _) (Keeps.after (h _) (keeps_setJp _ _)))

theorem keeps_recordAnswer (a : Answer) (s : State) : Keeps s (recordAnswer a s) := keeps_setJp s _

/-- An order keeps the bounds when its rule does. -/
theorem keeps_orderEdge {rule : State → Answer × State} (code : Nat) (h : ∀ s, Keeps s (rule s).2) (s : State) :
    Keeps s (orderEdge code rule s) :=
  Keeps.ite (keeps_oneShot _ (fun u => Keeps.ite ((h u).trans (keeps_recordAnswer _ _)) (keeps_recordAnswer _ u)) s)
    (Keeps.refl s)

theorem keeps_armRule (s : State) : Keeps s (armRule s).2 := by
  unfold armRule
  split
  iterate 2
    · split
      · exact Keeps.refl s
      · exact keeps_beginArm s
  all_goals exact Keeps.refl s

theorem keeps_startRule (s : State) : Keeps s (startRule s).2 := by
  unfold startRule
  split
  · exact Keeps.after (keeps_walk _ _) (Keeps.after (keeps_setPe rfl rfl) (keeps_setPs id))
  · exact Keeps.refl s

theorem keeps_haltPass (s : State) : Keeps s (haltPass s) := by
  refine Keeps.after (keeps_setGc (fun g => g.1) fun ⟨hlen, hredo, _⟩ => ?_)
    (Keeps.after (keeps_setPe rfl rfl) (keeps_completeAsked s))
  exact ⟨hlen, hredo, fun hasked => nomatch hasked⟩

theorem keeps_haltTraverse (s : State) : Keeps s (haltTraverse s) := keeps_setPe rfl rfl

theorem keeps_goOn (k : Follow) (s : State) : Keeps s (goOn k s) := by
  refine Keeps.ite (keeps_followUp k s) ?_
  cases k with
  | nextPart | unthreadRunning => exact keeps_followUp _ s
  | loadRough | threadAgain | unthread => exact keeps_setActivity _ s

theorem keeps_haltActivity (s : State) : Keeps s (haltActivity s) := by
  unfold haltActivity
  split
  · exact keeps_haltTraverse s
  · exact keeps_endIntent s
  · exact Keeps.after (keeps_setActivity _ _) (Keeps.ite (keeps_setTu id) (Keeps.refl s))
  · exact keeps_haltPass s
  · exact keeps_endIntent s
  · exact keeps_goOn _ s
  all_goals exact Keeps.refl s

theorem keeps_haltRule (s : State) : Keeps s (haltRule s).2 := by
  unfold haltRule
  split
  · exact Keeps.after (keeps_haltActivity _) (keeps_setPs id)
  · exact Keeps.refl s

theorem keeps_resumePass (s : State) : Keeps s (resumePass s) := by
  have hshown : Keeps s (showHead (passHead s.pe.passKind)
      ((s.setPe { s.pe with
        sub := some (s.pe.remembered.getD .run), remembered := none, stepTimer := some s.now }).setGc
        { approach s.cfg s.gc with halted := false, stepTimer := none })) :=
    Keeps.after (keeps_showHead _ _) (Keeps.after
      (keeps_setGc_lists_same (fun g => approach_acc s.gc g.2) rfl rfl rfl rfl) (keeps_setPe rfl rfl))
  unfold resumePass
  dsimp only
  split
  iterate 3 exact hshown.trans (keeps_replayOrEnd _)
  · exact hshown.trans (keeps_setGc_lists_same (fun g => g.1) rfl rfl rfl rfl)
  all_goals exact hshown

theorem keeps_resumeTraverse (s : State) : Keeps s (resumeTraverse s) :=
  Keeps.after (keeps_showHead _ _) (keeps_setPe rfl rfl)

theorem keeps_resumeActivity (s : State) : Keeps s (resumeActivity s) := by
  unfold resumeActivity
  split
  · exact keeps_resumeTraverse s
  · exact keeps_enterWaitThread _ s
  · exact keeps_resumePass s
  · exact keeps_enterWaitRelease s
  · exact keeps_showHead _ s
  · exact keeps_followUp _ s
  · exact keeps_showHead _ s
  · exact keeps_followUp _ s
  · exact keeps_walk _ s
  all_goals exact Keeps.refl s

theorem keeps_resumeRule (s : State) : Keeps s (resumeRule s).2 := by
  unfold resumeRule
  split
  · exact Keeps.after (keeps_resumeActivity _) (keeps_setPs id)
  · split
    · exact keeps_stallRestart s
    · exact Keeps.refl s
  all_goals exact Keeps.refl s

theorem keeps_endWork (s : State) : Keeps s (endWork s) := by
  have hidle : Keeps s ((if passLoaded s then dropPass s else s)) := Keeps.ite (keeps_dropPass s) (Keeps.refl s)
  refine hidle.trans (Keeps.trans ?_ (Keeps.ite (keeps_unitIdle _) (Keeps.refl _)))
  refine Keeps.after (keeps_setPe rfl rfl) (keeps_setGc (fun g => g.1) fun ⟨_, _, hasked⟩ => ?_)
  exact ⟨Nat.zero_le _, fun h => absurd rfl h, hasked⟩

theorem keeps_skipPart (s : State) : Keeps s (skipPart s) := by
  unfold skipPart
  split
  · exact Keeps.refl s
  · exact Keeps.after (keeps_settle _ _ _ _) (Keeps.after (keeps_setPs id) (keeps_endWork s))

theorem keeps_skipRule (s : State) : Keeps s (skipRule s).2 := by
  unfold skipRule
  split
  iterate 2
    · split
      · exact Keeps.refl s
      · split
        · exact keeps_skipPart s
        · exact Keeps.refl s
  all_goals exact Keeps.refl s

theorem keeps_abortUpdate (s : State) : Keeps s (abortUpdate s) := by
  unfold abortUpdate
  split
  · exact Keeps.ite (Keeps.after (keeps_noteUpdate _ _) (keeps_queueUpdate _ s)) (Keeps.refl s)
  · exact Keeps.refl s

theorem keeps_abortAll (s : State) : Keeps s (abortAll s) := by
  have hidle : Keeps s ((if passLoaded s then dropPass s else s)) := Keeps.ite (keeps_dropPass s) (Keeps.refl s)
  refine hidle.trans (Keeps.after (keeps_setPs fun _ => rfl) (Keeps.after (keeps_endIntent _)
    (Keeps.after (keeps_setArm _ _) (Keeps.after (keeps_unitIdle _) ?_))))
  exact Keeps.after (keeps_gapOff _) (keeps_setPe rfl rfl)

theorem keeps_abortRule (s : State) : Keeps s (abortRule s).2 := by
  unfold abortRule
  split
  · exact Keeps.refl s
  all_goals exact (keeps_abortUpdate s).trans (keeps_abortAll _)

theorem keeps_setPositionRule {put : Int → PathEngine → PathEngine}
    (h : ∀ (c : Int) (s : State), -1048575 ≤ c ∧ c ≤ 1048575 → PositionOk s → PositionOk (s.setPe (put c s.pe)))
    (s : State) : Keeps s (setPositionRule put s).2 := by
  unfold setPositionRule
  split
  · exact Keeps.refl s
  · split
    · next hc => exact keeps_setPe_of_position (h _ s ((coordOk_iff _).1 hc))
    · exact Keeps.refl s

theorem keeps_beginNewPlate (arg : Half) (s : State) : Keeps s (beginNewPlate arg s) := by
  have hview : Keeps s ((s.setPs { s.ps with ownCount := 0, lastRelease := none }).setPva { s.pva with
      tally := [], peers := s.pva.peers.map fun e => (e.1, e.2.newIdentity arg) }) := by
    refine Keeps.after (keeps_setPva (fun h e he => ?_) id (fun _ => rfl)
      (memory_wf_map _ fun p hp => ?_)) (keeps_setPs id)
    · obtain ⟨e', he', rfl⟩ := List.mem_map.mp he
      exact newIdentity_ok (h e' he')
    · -- an entry that changes is not NEVER, and stays so
      have hlive (q : Peer) (hq : q.live ≠ .never) : q ≠ Peer.never := fun e => hq (e ▸ rfl)
      unfold Peer.newIdentity
      split
      · exact hp
      · next hl =>
        split
        · exact hlive _ hl
        · split
          · exact hlive _ hl
          · exact hp
  have hfed := hview.trans (keeps_setPrs
    (b := RecordStore.feedAll s.now Config.newPlateUpdates
      { s.prs with announced := arg, plateArg := arg, feed := some 0 })
    (fun h => feedAll_fits _ (r := { s.prs with announced := arg, plateArg := arg, feed := some 0 }) h)
    (fun h => feedAll_wf _ (r := { s.prs with announced := arg, plateArg := arg, feed := some 0 }) h))
  exact Keeps.ite (hfed.trans (keeps_raiseFlag _ _)) hfed

theorem keeps_newPlateRule (s : State) : Keeps s (newPlateRule s).2 := by
  unfold newPlateRule
  split
  iterate 4 exact Keeps.refl s
  all_goals
    split
    · exact Keeps.refl s
    · split
      · exact keeps_beginNewPlate _ s
      · exact Keeps.refl s

theorem keeps_writeConfigRule (s : State) : Keeps s (writeConfigRule s).2 := by
  unfold writeConfigRule
  split
  iterate 3 exact Keeps.refl s
  all_goals
    dsimp only
    split
    · exact Keeps.refl s
    · split
      · exact keeps_setPrs join_fits join_wf
      · exact Keeps.refl s

theorem keeps_clearCountersRule (s : State) : Keeps s (clearCountersRule s).2 :=
  Keeps.after (keeps_setPva id (fun _ => Nat.zero_le _) id id)
    (keeps_setCli fun ⟨_, _, _, _, h5, h6, h7⟩ =>
      ⟨Nat.zero_le _, Nat.zero_le _, Nat.zero_le _, Nat.zero_le _, h5, h6, h7⟩)

theorem keeps_undefinedOrder (s : State) : Keeps s (if portAwake s = true ∧ orderCode s.jp.word ∉ definedOrders then
    oneShot .order (recordAnswer .refusedArg) s else s) :=
  Keeps.ite (keeps_oneShot _ (keeps_recordAnswer _) s) (Keeps.refl s)

/-! ## The record store -/

theorem keeps_feedAll (s : State) : Keeps s (s.setPrs (s.prs.feedAll s.now Config.newPlateUpdates)) :=
  keeps_setPrs (feedAll_fits _) (feedAll_wf _)

theorem keeps_serveWaiting (s : State) : Keeps s (serveWaiting s) := by
  unfold serveWaiting
  split
  · exact Keeps.after (keeps_setArm _ _) (keeps_queueAbandoned _ s)
  · exact Keeps.after (keeps_setActivity _ _) (Keeps.after (keeps_noteUpdate _ _) (keeps_queueUpdate _ s))
  · exact keeps_feedAll s

theorem keeps_completeWrite (s : State) : Keeps s (completeWrite s) :=
  Keeps.after (keeps_setPrs endNewPlate_fits endNewPlate_wf) (Keeps.after (keeps_serveWaiting _)
    (keeps_setPrs removeHead_fits (beginUpdate_wf (r := { s.prs with queue := s.prs.queue.tail }))))

theorem keeps_markFault (s : State) : Keeps s (markFault s) := Keeps.ite (keeps_setPs id) (Keeps.refl s)

theorem keeps_judgeWrite (e : QueueEntry) (readBack : Half) (s : State) : Keeps s (judgeWrite e readBack s) :=
  Keeps.ite (keeps_setPrs beginUpdate_fits beginUpdate_wf)
    (Keeps.ite (keeps_completeWrite s) (Keeps.ite (keeps_setPrs id fun h => memory_wf_write h _ _)
      (Keeps.after (keeps_completeWrite _) (Keeps.after (keeps_markFault _) (keeps_raiseFlag _ s)))))

theorem answers_eraseEnd (s : State) : Answers s (execEraseEnd s) := by
  unfold execEraseEnd
  split
  · exact Keeps.answers (keeps_setPrs id id)
  · exact (Keeps.refl s).answers

theorem answers_writeEnd (readBack : Half) (s : State) : Answers s (execWriteEnd readBack s) := by
  unfold execWriteEnd
  split
  · exact Keeps.answers (Keeps.after (keeps_judgeWrite _ _ _) (keeps_setPrs id fun h => memory_wf_write h _ _))
  · exact (Keeps.refl s).answers

theorem answers_recordWaitEnd (s : State) : Answers s (execRecordWaitEnd s) := by
  unfold execRecordWaitEnd
  split
  · exact (keeps_goOn _ s).answers
  · exact Answers.ite (Keeps.after (keeps_goOn _ _) (Keeps.after (keeps_noteUpdate _ _) (keeps_queueUpdate _ s)))
      (Keeps.refl s)
  · exact (Keeps.refl s).answers

/-! ## The port and the resets -/

theorem keeps_edge {act : State → State} (h : ∀ s, Keeps s (act s)) (s : State) : Keeps s (edge act s) :=
  Keeps.ite (h s) (Keeps.refl s)

theorem keeps_putAction (s : State) : Keeps s (putAction s) :=
  Keeps.after (keeps_setJp _ _) (Keeps.after (keeps_recordAnswer _ _)
    (Keeps.ite (keeps_setJs (fun h => memory_wf_write h _ _) id id) (Keeps.refl s)))

theorem keeps_latch (s : State) : Keeps s (latch s) := Keeps.ite (keeps_setPe rfl rfl) (Keeps.refl s)

theorem keeps_getAction (s : State) : Keeps s (getAction s) :=
  Keeps.after (keeps_setJp _ _) (Keeps.after (keeps_setJp _ _) (keeps_latch s))

theorem position_zero {s : State} (hx : s.pe.posX = 0) (hy : s.pe.posY = 0) : PositionOk s := by
  rw [PositionOk, hx, hy]
  decide

theorem keeps_porBlocks (s : State) (p : Power) : Keeps s ((porBlocks s).setPower p) where
  pending := rfl
  queue _ := lose_fits s.prs
  gap _ := ⟨Nat.zero_le _, Nat.zero_le _⟩
  position _ := position_zero rfl rfl
  lists _ := ⟨Nat.zero_le _, fun h => absurd rfl h, fun h => nomatch h⟩
  peers _ := fun _ he => nomatch he
  counters _ := by simp [CountersOk, porBlocks, CellLine.reset, PeerView.reset, ThreadUnit.restart, ThreadUnit.reset]
  stores h := ⟨rfl, rfl, rfl, h.2.2.2.1, rfl, rfl, rfl⟩

theorem keeps_warmBlocks (s : State) (p : Power) : Keeps s ((warmBlocks s).setPower p) where
  pending := rfl
  queue _ := lose_fits s.prs
  gap _ := ⟨Nat.zero_le _, Nat.zero_le _⟩
  position h := h
  lists _ := ⟨Nat.zero_le _, fun h => absurd rfl h, fun h => nomatch h⟩
  peers _ := fun _ he => nomatch he
  counters := fun ⟨h1, h2, h3, h4, h5, _, _⟩ => ⟨h1, h2, h3, h4, h5, Nat.zero_le _, Nat.zero_le _⟩
  stores := fun ⟨h1, h2, h3, h4, _, _, _⟩ => ⟨h1, h2, h3, h4, rfl, rfl, rfl⟩

theorem rebuiltTally_wf (r : RecordStore) : Memory.wf 0 (rebuiltTally r) = true := by
  refine List.foldlRecOn (motive := fun t => Memory.wf 0 t = true) _ _ rfl fun t ht p _ => ?_
  split
  · exact memory_wf_write ht _ _
  · exact ht

theorem keeps_handOutRecords (s : State) : Keeps s (handOutRecords s) :=
  Keeps.after (keeps_setPva id id (fun _ => rebuiltTally_wf s.prs) id) (keeps_setPs id)

theorem keeps_raiseFlag_if (p : Prop) [Decidable p] (b : Nat) (s : State) :
    Keeps s (if p then raiseFlag b s else s) := Keeps.ite (keeps_raiseFlag b s) (Keeps.refl s)

theorem keeps_completeStartUp (s : State) : Keeps s (completeStartUp s) := by
  have hread : Keeps s (handOutRecords ((s.setPower .ready).setCfg (paramsOfWords (storedConfig s)))) :=
    Keeps.after (keeps_handOutRecords _) (Keeps.after (keeps_setCfg (paramsOfWords_tOpen _)) (keeps_setPower s _))
  refine Keeps.after (keeps_raiseFlag_if _ _ _) (Keeps.after (keeps_setCli_counters_same rfl rfl rfl rfl rfl) ?_)
  exact Keeps.after (keeps_raiseFlag_if _ _ _) (Keeps.after (keeps_setJp _ _) (Keeps.after (keeps_setPrs id id) hread))

theorem answers_warmReset (s : State) : Answers s (execWarmReset s) :=
  Answers.ite (Keeps.refl s) (Keeps.after (keeps_warmBlocks _ _) (keeps_completeAsked s))

theorem answers_resetRelease (strap : BitVec 4) (s : State) : Answers s (execResetRelease strap s) :=
  Answers.ite (Keeps.after (keeps_setCli_counters_same rfl rfl rfl rfl rfl) (keeps_setPower s _)) (Keeps.refl s)

theorem answers_startUpCompletion (t : Nat) (s : State) : Answers s (execStartUpCompletion t s) :=
  Answers.ite (Keeps.after (keeps_completeStartUp _) (keeps_atTime t s)) (Keeps.refl s)

/-! ## Every command -/

/-- Every command has a next state, in which the commands waiting and the bounds are kept. -/
theorem exec_answers (c : Instr) (s : State) : Answers s (exec c s) := by
  cases c with
  | powerOnReset => exact (keeps_porBlocks s _).answers
  | warmReset => exact answers_warmReset s
  | resetRelease strap => exact answers_resetRelease strap s
  | startUpCompletion t => exact answers_startUpCompletion t s
  | put => exact (keeps_edge (keeps_oneShot _ keeps_putAction) s).answers
  | get pickup =>
    exact (keeps_edge (fun u => (keeps_setTu (b := { u.tu with pickup := pickup }) id).trans
      (keeps_oneShot .get keeps_getAction _)) s).answers
  | peek => exact (keeps_edge (keeps_oneShot .peek fun u => keeps_setJp u _) s).answers
  | arm => exact (keeps_orderEdge _ keeps_armRule s).answers
  | armCheckFailed => exact answers_armCheckFailed s
  | armQueueWaitEnd => exact answers_armQueueWaitEnd s
  | armSuccess => exact answers_armSuccess s
  | start => exact (keeps_orderEdge _ keeps_startRule s).answers
  | halt => exact (keeps_orderEdge _ keeps_haltRule s).answers
  | resume => exact (keeps_orderEdge _ keeps_resumeRule s).answers
  | skipPart => exact (keeps_orderEdge _ keeps_skipRule s).answers
  | abort => exact (keeps_orderEdge _ keeps_abortRule s).answers
  | setPositionX =>
    exact (keeps_orderEdge _ (keeps_setPositionRule (put := fun c pe => { pe with posX := c })
      fun _ _ hc h => ⟨hc.1, hc.2, h.2.2⟩) s).answers
  | setPositionY =>
    exact (keeps_orderEdge _ (keeps_setPositionRule (put := fun c pe => { pe with posY := c })
      fun _ _ hc h => ⟨h.1, h.2.1, hc⟩) s).answers
  | newPlate => exact (keeps_orderEdge _ keeps_newPlateRule s).answers
  | newPlateFeedResume => exact (keeps_feedAll s).answers
  | writeConfig => exact (keeps_orderEdge _ keeps_writeConfigRule s).answers
  | clearFlags => exact (keeps_orderEdge orderClearFlags (rule := clearFlagsRule) (fun u => keeps_setJp u _) s).answers
  | setAttnMask => exact (keeps_orderEdge orderSetAttnMask (rule := attnMaskRule) (fun u => keeps_setJp u _) s).answers
  | clearCounters => exact (keeps_orderEdge _ keeps_clearCountersRule s).answers
  | undefinedOrder => exact (keeps_undefinedOrder s).answers
  | traverseStep => exact answers_traverseStep s
  | forwardCutStep => exact answers_forwardCutStep s
  | gapSample v => exact answers_gapSample v s
  | retractStep => exact answers_retractStep s
  | replayStep => exact answers_replayStep s
  | stallTimerExpiry => exact answers_stallTimerExpiry s
  | severTimerExpiry => exact answers_severTimerExpiry s
  | annealTimerExpiry pickup => exact answers_annealTimerExpiry pickup s
  | jetOkRise pickup => exact answers_jetOkRise pickup s
  | jetTimeout => exact answers_jetTimeout s
  | pickupRise => exact answers_pickupRise s
  | feedTimeout => exact answers_feedTimeout s
  | jetOkFall => exact answers_jetOkFall s
  | wireOkRise => exact answers_wireOkRise s
  | captureTimeout => exact answers_captureTimeout s
  | withdrawEnd => exact answers_withdrawEnd s
  | wireOkFall => exact answers_wireOkFall s
  | unthreadTimerExpiry => exact answers_unthreadTimerExpiry s
  | recordWaitEnd => exact answers_recordWaitEnd s
  | ownSlotArrival t driven => exact answers_ownSlotArrival t driven s
  | frameSent t => exact answers_frameSent t s
  | readbackMismatch => exact answers_readbackMismatch s
  | frameReceived t b => exact answers_frameReceived t b s
  | lineStuckTimeout => exact answers_lineStuckTimeout s
  | stuckClear => exact answers_stuckClear s
  | threadWarningExpiry => exact answers_threadWarningExpiry s
  | eraseEnd => exact answers_eraseEnd s
  | writeEnd readBack => exact answers_writeEnd readBack s
  | addrIn b =>
    exact (keeps_edge (fun u => (keeps_sampleEdge .addrIn u).trans (keeps_setJp _ { (sampleEdge .addrIn u).jp with
      addr := shiftIn u.jp.addr b })) s).answers
  | wordIn b =>
    exact (keeps_edge (fun u => (keeps_sampleEdge .wordIn u).trans (keeps_setJp _ { (sampleEdge .wordIn u).jp with
      word := shiftIn u.jp.word b })) s).answers
  | wordOut => exact Keeps.answers (keeps_edge (fun u => keeps_setJp u _) s)
  | hold =>
    exact (keeps_edge (fun u => (keeps_sampleEdge .hold u).trans (keeps_setJp _ { (sampleEdge .hold u).jp with
      marker := false })) s).answers
  | powerLoss => exact (keeps_porBlocks s _).answers

/-- A step keeps every bound; the commands waiting bound nothing, so that the front one may leave the queue. -/
theorem exists_keeps_of_step {s t : State} (h : step s = .next t) : ∃ q, Keeps (s.setPending q) t := by
  unfold step at h
  split at h
  · cases h
    exact ⟨s.pending, rfl, id, id, id, id, id, id, id⟩
  · next c rest _ =>
    obtain ⟨u, hu, hkeeps⟩ := exec_answers c (s.setPending rest)
    cases hu.symm.trans h
    exact ⟨rest, hkeeps⟩

end Sys2Proof.Machine

namespace Sys2Proof.Proofs

open Sys2Proof.Machine

/-- Settles O2: every command answers with a next state that keeps the commands waiting. -/
theorem everyCommandAnswers : Obligations.EveryCommandAnswers := by
  intro c s
  obtain ⟨t, ht, hkeeps⟩ := exec_answers c s
  exact ⟨t, ht, hkeeps.pending⟩

/-- Settles O56: a join is the one thing that lengthens the queue, and it tests the room and the word first. -/
theorem queueKept : Obligations.QueueKept := by
  intro s t hqueue hstep
  obtain ⟨q, hkeeps⟩ := exists_keeps_of_step hstep
  exact hkeeps.queue hqueue

/-- Settles O57: the filter and the approach value stay within 8184, and an issued step is clamped. -/
theorem gapAndPositionKept : Obligations.GapAndPositionKept := by
  intro s t hgap hposition hstep
  obtain ⟨q, hkeeps⟩ := exists_keeps_of_step hstep
  exact ⟨hkeeps.gap hgap, hkeeps.position hposition⟩

/-- Settles O58: a retract step moves one entry from the log to the stack, a replay step moves it back, and whatever
leaves the episode finds or makes the stack empty. -/
theorem listsKept : Obligations.ListsKept := by
  intro s t hlists hstep
  obtain ⟨q, hkeeps⟩ := exists_keeps_of_step hstep
  exact hkeeps.lists hlists

/-- Settles O59: the counters stop at their limits, and an entry attributes a release only below its cumulative ones. -/
theorem peersAndCountersKept : Obligations.PeersAndCountersKept := by
  intro s t hpeers hcounters hstep
  obtain ⟨q, hkeeps⟩ := exists_keeps_of_step hstep
  exact ⟨hkeeps.peers hpeers, hkeeps.counters hcounters⟩

/-- Settles O60: every change of a store is a write, an emptying, or a change of its values that makes none the
default. -/
theorem storesKept : Obligations.StoresKept := by
  intro s t hstores hstep
  obtain ⟨q, hkeeps⟩ := exists_keeps_of_step hstep
  exact hkeeps.stores hstores

/-- Settles O1: a step takes the front of the queue by its definition. -/
theorem stepRunsFront : Obligations.StepRunsFront := by
  intro c rest s
  simp only [step, State.setPending_pending, State.setPending_setPending]

/-- Settles O55: after reset every list and store is empty and every count 0. -/
theorem boundsAtReset : Obligations.BoundsAtReset := by
  refine ⟨lose_fits RecordStore.reset, ⟨Nat.zero_le _, Nat.zero_le _⟩, position_zero rfl rfl,
    ⟨Nat.zero_le _, fun h => absurd rfl h, fun h => nomatch h⟩, (fun _ he => nomatch he), ?_,
    rfl, rfl, rfl, rfl, rfl, rfl, rfl⟩
  simp [Safety.CountersOk, State.reset, CellLine.reset, PeerView.reset, ThreadUnit.reset]

end Sys2Proof.Proofs

/-! PROOFS. The port: its orders by their codes, PUT and WORD-OUT, the one-shot marker, mask and counters (R195 to
R207); and the resets and their release. -/

namespace Sys2Proof.Machine

open Sys2Proof.Statements

/-! ## Words -/

theorem field_eq (w : Word) (lo len : Nat) : field w lo len = w.toNat / 2 ^ lo % 2 ^ len := by
  rw [field, BitVec.extractLsb'_toNat, Nat.shiftRight_eq_div_pow]

/-- A field in two's complement: its upper half stands for the numbers below 0. -/
theorem signedField_eq (w : Word) (lo len : Nat) :
    signedField w lo len = if 2 * field w lo len < 2 ^ len then (field w lo len : Int)
      else (field w lo len : Int) - (2 ^ len : Nat) := rfl

theorem orderCode_eq (w : Word) : orderCode w = w.toNat / 2 ^ 24 := by
  have hw := w.isLt
  rw [orderCode, field_eq]
  omega

theorem orderArg_eq (w : Word) : orderArg w = w.toNat % 2 ^ 24 := by
  rw [orderArg, field_eq, Nat.pow_zero, Nat.div_one]

theorem orderCoord_eq (w : Word) :
    signedField w 0 24 = if orderArg w < 2 ^ 23 then (orderArg w : Int) else orderArg w - 2 ^ 24 := by
  rw [signedField_eq]
  show (if 2 * orderArg w < 2 ^ 24 then _ else _) = _
  have hhalf : 2 * orderArg w < 2 ^ 24 ↔ orderArg w < 2 ^ 23 := by omega
  simp only [hhalf]
  rfl

theorem and_ne_zero_iff (a b : Half) : a &&& b ≠ 0#16 ↔ ∃ i : Fin 16, a.getLsbD i = true ∧ b.getLsbD i = true := by
  constructor
  · intro h
    by_contra hno
    refine h (BitVec.eq_of_getLsbD_eq fun i hi => ?_)
    rw [BitVec.getLsbD_and, BitVec.getLsbD_zero, Bool.and_eq_false_iff]
    by_contra hboth
    simp only [not_or, Bool.not_eq_false] at hboth
    exact hno ⟨⟨i, hi⟩, hboth⟩
  · rintro ⟨i, ha, hb⟩ h
    have hbit : (a &&& b).getLsbD i = true := by rw [BitVec.getLsbD_and, ha, hb, Bool.and_self]
    rw [h, BitVec.getLsbD_zero] at hbit
    exact absurd hbit (by decide)

/-- ATTN follows flags and mask (R206). -/
theorem attn_iff (s : State) :
    attn s = true ↔ ∃ b : Fin 16, s.jp.flags.getLsbD b = true ∧ s.jp.mask.getLsbD b = true := by
  rw [attn, decide_eq_true_eq, and_ne_zero_iff]

theorem isStoreAddress_iff (a : Nat) : isStoreAddress a = true ↔ InTables a := by
  simp only [isStoreAddress, InTables, Bool.or_eq_true, Bool.and_eq_true, decide_eq_true_eq, or_assoc]

/-! ## Orders -/

/-- The row of an order is an ORDER edge with that order's code and one rule (R202, log 1). -/
theorem exec_orderRow {r : Nat × Instr} (hr : r ∈ orderRows) :
    ∃ rule, ∀ s, exec r.2 s = .next (orderEdge r.1 rule s) := by
  simp only [orderRows, List.mem_cons, List.not_mem_nil, or_false] at hr
  rcases hr with rfl | rfl | rfl | rfl | rfl | rfl | rfl | rfl | rfl | rfl | rfl | rfl | rfl <;>
    exact ⟨_, fun _ => rfl⟩

/-- The edge of a code that names no order is taken as a one-shot edge (R202). -/
theorem exec_undefinedOrder_taken {s : State} (ha : Awake s) (hc : orderCode s.jp.word ∉ definedOrders) :
    exec .undefinedOrder s = .next (oneShot .order (recordAnswer .refusedArg) s) := by
  show execUndefinedOrder s = _
  rw [execUndefinedOrder, if_pos ⟨(portAwake_iff s).2 ha, hc⟩]

/-- An order taken whose rule answers with a state that the edge itself has touched in the port alone (R202). -/
theorem orderEdge_answered {code : Nat} {rule : State → Answer × State} {s t : State} {a : Answer}
    (ho : OrderArrives code s) (h : rule (marked .order s) = (a, t)) : orderEdge code rule s = recordAnswer a t := by
  obtain ⟨hpower, hmarker, hcode⟩ := ho
  rw [orderEdge_ready hpower hmarker hcode, h]

/-- An order whose rule leaves the state as it finds it leaves its answer alone (R202). -/
theorem orderEdge_answeredOnly {code : Nat} {rule : State → Answer × State} {s : State} {a : Answer}
    (ho : OrderArrives code s) (h : rule (marked .order s) = (a, marked .order s)) :
    orderEdge code rule s = answeredOnly a s := by
  rw [orderEdge_answered ho h, recordAnswer_marked]

/-! ## Words in and out -/

theorem exec_put_clear {s : State} (ha : Awake s) (hm : s.jp.marker = false) :
    exec .put s = .next (putAction (marked .put s)) := by
  show execPut s = _
  rw [execPut, edge_awake ((portAwake_iff s).2 ha), oneShot_clear hm]

theorem putAction_accepted {s : State} (h : putAnswer s = .accepted) :
    putAction s = nextAddress (recordAnswer .accepted (storeWord s)) := by
  rw [putAction, h, if_pos rfl]

theorem putAction_refused {s : State} {a : Answer} (h : putAnswer s = a) (hne : a ≠ .accepted) :
    putAction s = nextAddress (recordAnswer a s) := by
  rw [putAction, h, if_neg hne]

theorem putAnswer_of_outside {s : State} (h : ¬ InTables s.jp.addr.toNat) : putAnswer s = .refusedArg := by
  rw [putAnswer, if_neg (mt (isStoreAddress_iff _).1 h)]

theorem putAnswer_of_inside {s : State} (h : InTables s.jp.addr.toNat) :
    putAnswer s = if s.ps.job = .disarmed ∨ s.ps.job = .done then .accepted else .refusedState := by
  rw [putAnswer, if_pos ((isStoreAddress_iff _).2 h)]

/-- What stands at every place after a write (R6). -/
theorem memory_read_write {m : Memory Word} (h : Memory.wf 0#32 m = true) (k : Nat) (v : Word) (a : Nat) :
    Memory.read 0#32 (Memory.write 0#32 k v m) a = if a = k then v else Memory.read 0#32 m a := by
  split
  · next hak => rw [hak, memory_read_write_same h]
  · next hak => exact memory_read_write_other m v hak

theorem exec_wordOut_awake {s : State} (ha : Awake s) :
    exec .wordOut s = .next { s with jp := { s.jp with
      lastMode := .wordOut, outBit := nextOutBit s.jp
      jdat := some (s.jp.word.getLsbD (nextOutBit s.jp).toNat) } } := by
  show execWordOut s = _
  rw [execWordOut, edge_awake ((portAwake_iff s).2 ha)]
  rfl

theorem exec_hold_awake {s : State} (ha : Awake s) :
    exec .hold s = .next { s with jp := { s.jp with lastMode := .hold, jdat := none, marker := false } } := by
  show execHold s = _
  rw [execHold, edge_awake ((portAwake_iff s).2 ha)]
  rfl

/-- A one-shot edge that finds the marker set samples its mode and does no more (R196). -/
theorem edge_oneShot_set {m : PortMode} {act : State → State} {s : State} (ha : Awake s) (hm : s.jp.marker = true) :
    edge (oneShot m act) s = { s with jp := { s.jp with lastMode := m, jdat := none } } := by
  rw [edge_awake ((portAwake_iff s).2 ha), oneShot_set hm]
  rfl

/-! ## Resets -/

/-- A retract step moves the engine within its pass: pass part, mark pointer and fired flags stand (R41). -/
theorem retractOnce_passKept (s : State) :
    (retractOnce s).pe.passPart = s.pe.passPart ∧ (retractOnce s).pe.markPtr = s.pe.markPtr
      ∧ (retractOnce s).pe.fired = s.pe.fired := by
  have hissue (st : PathStep) (pe : PathEngine) : (issueStep st pe).passPart = pe.passPart
      ∧ (issueStep st pe).markPtr = pe.markPtr ∧ (issueStep st pe).fired = pe.fired := by
    unfold issueStep
    split <;> exact ⟨rfl, rfl, rfl⟩
  have hretreat (len : Nat) (pe : PathEngine) : (retreatProgress len pe).passPart = pe.passPart
      ∧ (retreatProgress len pe).markPtr = pe.markPtr ∧ (retreatProgress len pe).fired = pe.fired := by
    unfold retreatProgress
    split <;> exact ⟨rfl, rfl, rfl⟩
  unfold retractOnce
  split
  · exact ⟨rfl, rfl, rfl⟩
  · next st _ _ =>
    obtain ⟨h1, h2, h3⟩ := hissue st.reverse s.pe
    obtain ⟨h4, h5, h6⟩ := hretreat (s.js.length ((passEntry s).firstSeg + (s.pe.seg - 1))) (issueStep st.reverse s.pe)
    exact ⟨h4.trans h1, h5.trans h2, h6.trans h3⟩

theorem completeAsked_passKept (s : State) :
    (completeAsked s).pe.passPart = s.pe.passPart ∧ (completeAsked s).pe.markPtr = s.pe.markPtr
      ∧ (completeAsked s).pe.fired = s.pe.fired := by
  unfold completeAsked
  split
  · exact retractOnce_passKept s
  · exact ⟨rfl, rfl, rfl⟩

end Sys2Proof.Machine

namespace Sys2Proof.Proofs

open Sys2Proof.Machine Sys2Proof.Statements

/-- Settles O8: the answer is by address first and then by job state, and an accepted word is one write. -/
theorem putStores : Obligations.PutStores := by
  intro s ha hm after
  refine ⟨fun hin hjob => ⟨?_, fun hwf => memory_read_write hwf _ _⟩, fun hin hne hne' => ?_, fun hout => ?_⟩
  · have hanswer : putAnswer (marked .put s) = .accepted := by
      rw [putAnswer_of_inside (s := marked .put s) hin]
      exact if_pos hjob
    rw [exec_put_clear ha hm, putAction_accepted hanswer]
    rfl
  · have hanswer : putAnswer (marked .put s) = .refusedState := by
      rw [putAnswer_of_inside (s := marked .put s) hin]
      exact if_neg fun h => h.elim hne hne'
    rw [exec_put_clear ha hm, putAction_refused hanswer (by decide)]
    rfl
  · rw [exec_put_clear ha hm, putAction_refused (putAnswer_of_outside (s := marked .put s) hout) (by decide)]
    rfl

/-- Settles O7: the counter's next value names the bit driven. -/
theorem wordOut : Obligations.WordOut := fun _ ha => exec_wordOut_awake ha

/-- Settles O10: every one-shot edge goes through one test of the marker, and the shift edges sample without it. -/
theorem oneShotActsOnce : Obligations.OneShotActsOnce := by
  intro s ha
  refine ⟨fun hm => ⟨?_, ?_, ?_, fun r hr hc => ?_, fun hc => ?_⟩, exec_hold_awake ha, fun b t h => ?_⟩
  · exact congrArg _ (edge_oneShot_set ha hm)
  · exact congrArg _ (edge_oneShot_set ha hm)
  · show execGet s.tu.pickup s = _
    rw [execGet, edge_awake ((portAwake_iff s).2 ha), oneShot_set (s := s.setTu _) hm]
    rfl
  · obtain ⟨rule, hrule⟩ := exec_orderRow hr
    rw [hrule, orderEdge_set ((portAwake_iff s).2 ha) hm hc]
    rfl
  · rw [exec_undefinedOrder_taken ha hc, oneShot_set hm]
    rfl
  · rcases h with h | h | h
    · cases (exec_addrIn_awake ha b).symm.trans h
      rfl
    · cases (exec_wordIn_awake ha b).symm.trans h
      rfl
    · cases (exec_wordOut_awake ha).symm.trans h
      rfl

/-- Settles O11: the fields of an order word are read by division, and an order before the start-up completion is
refused by the edge they all share. -/
theorem ordersRefused : Obligations.OrdersRefused := by
  refine ⟨fun w => ⟨orderCode_eq w, orderArg_eq w, orderCoord_eq w, field_eq w⟩, rfl, rfl, fun s ha hm hc => ?_,
    fun s hp hm => ?_⟩
  · rw [exec_undefinedOrder_taken ha hc, oneShot_clear hm]
    rfl
  · refine ⟨?_, ?_, ?_, ?_, ?_, ?_, ?_, ?_, ?_, ?_, ?_, ?_, ?_⟩ <;>
      exact fun hc => congrArg _ (orderEdge_answeredOnly_starting hp hm hc)

/-- Settles O13: both orders are accepted in every job state, and ATTN is a bit set in flags and mask both. -/
theorem maskAndCounters : Obligations.MaskAndCounters := by
  refine ⟨rfl, fun flags b c _ hc => getLsbD_withFlag flags hc, fun s => ⟨fun ho => ?_, fun ho => ?_⟩⟩
  · exact ⟨_, congrArg Host.Outcome.next (orderEdge_answered (rule := attnMaskRule) ho rfl), rfl, attn_iff _⟩
  · exact congrArg Host.Outcome.next (orderEdge_answered (rule := clearCountersRule) ho rfl)

/-- Settles O3: each reset is written out block by block; a warm reset first makes the retract step asked for, which
keeps the pass. -/
theorem resets : Obligations.Resets := by
  intro s t u
  refine ⟨rfl, rfl, fun hpower => ?_, rfl⟩
  obtain ⟨hpart, hptr, hfired⟩ := completeAsked_passKept s
  show execWarmReset s = _
  rw [execWarmReset, if_neg hpower]
  simp only [warmBlocks, State.setPower, JobStore.warm, PathEngine.warm, CellLine.warm, PeerView.warm,
    ThreadUnit.restart, RecordStore.lose, completeAsked_frame, hpart, hptr, hfired]
  rfl

/-- Settles O4: in reset its release is all that the row does. -/
theorem resetRelease : Obligations.ResetRelease := by
  intro strap s hpower
  show execResetRelease strap s = _
  rw [execResetRelease, if_pos hpower]
  rfl

end Sys2Proof.Proofs

/-! PROOFS. The address map word by word, GET and PEEK (R48, R199 to R201, R210 to R212). -/

namespace Sys2Proof.Machine

open Sys2Proof.Statements

/-! ## The map by its regions -/

theorem isStoreAddress_eq_false {a : Nat} (h : 0x2FFF < a) : isStoreAddress a = false := by
  rw [← Bool.not_eq_true, isStoreAddress_iff]
  unfold InTables
  omega

theorem mapRead_table {a : Nat} (s : State) (h : InTables a) : mapRead s a = Memory.read 0#32 s.js.mem a := by
  rw [mapRead, if_pos ((isStoreAddress_iff a).2 h)]
  rfl

/-- Above the tables the map is read by its five ranges. -/
theorem mapRead_above {a : Nat} (s : State) (h : 0x2FFF < a) :
    mapRead s a =
      if 0xF000 ≤ a ∧ a ≤ 0xF00F then statusRead s (a - 0xF000)
      else if 0xF010 ≤ a ∧ a ≤ 0xF01E then configRead s (a - 0xF010 + 1)
      else if 0xF100 ≤ a ∧ a ≤ 0xF11F then peerRead s (a - 0xF100)
      else if 0xF140 ≤ a ∧ a ≤ 0xF17F then pack [(0, 8, Memory.read 0 s.pva.tally (a - 0xF140))]
      else if 0xF200 ≤ a ∧ a ≤ 0xF24F then (s.prs.nvWord (a - 0xF200)).setWidth 32
      else 0#32 := by
  simp only [mapRead, isStoreAddress_eq_false h, Bool.false_eq_true, if_false, inRange_eq_true_iff]

theorem mapRead_elsewhere {a : Nat} (s : State) (ht : ¬ InTables a)
    (he : ¬ ((0xF000 ≤ a ∧ a ≤ 0xF01E) ∨ (0xF100 ≤ a ∧ a ≤ 0xF11F) ∨ (0xF140 ≤ a ∧ a ≤ 0xF17F)
      ∨ (0xF200 ≤ a ∧ a ≤ 0xF24F))) : mapRead s a = 0#32 := by
  by_cases h : 0x2FFF < a
  · rw [mapRead_above s h, if_neg, if_neg, if_neg, if_neg, if_neg] <;> omega
  · simp only [mapRead, isStoreAddress_iff, ht, if_false, inRange_eq_true_iff]
    rw [if_neg, if_neg, if_neg, if_neg, if_neg] <;> omega

theorem mapRead_status {k : Nat} (s : State) (h : k ≤ 15) : mapRead s (0xF000 + k) = statusRead s k := by
  rw [mapRead_above s (by omega), if_pos (by omega), Nat.add_sub_cancel_left]

theorem mapRead_config {k : Nat} (s : State) (h1 : 1 ≤ k) (h2 : k ≤ 15) :
    mapRead s (0xF010 + k - 1) = configRead s k := by
  rw [mapRead_above s (by omega), if_neg (by omega), if_pos (by omega)]
  congr 1
  omega

theorem mapRead_peer {k : Nat} (s : State) (h : k ≤ 31) : mapRead s (0xF100 + k) = peerRead s k := by
  rw [mapRead_above s (by omega), if_neg (by omega), if_neg (by omega), if_pos (by omega), Nat.add_sub_cancel_left]

theorem mapRead_tally {z : Nat} (s : State) (h : z < 64) :
    mapRead s (0xF140 + z) = pack [(0, 8, Memory.read 0 s.pva.tally z)] := by
  rw [mapRead_above s (by omega), if_neg (by omega), if_neg (by omega), if_neg (by omega), if_pos (by omega),
    Nat.add_sub_cancel_left]

theorem mapRead_record {n : Nat} (s : State) (h : n < 80) :
    mapRead s (0xF200 + n) = (s.prs.nvWord n).setWidth 32 := by
  rw [mapRead_above s (by omega), if_neg (by omega), if_neg (by omega), if_neg (by omega), if_neg (by omega),
    if_pos (by omega), Nat.add_sub_cancel_left]

/-! ## Layouts -/

/-- A packed word shows the fields it was packed from. -/
theorem shows_pack {r : List (Nat × Nat × Nat)} (h : laidOut 0 r = true) : Shows (pack r) r :=
  ⟨fun _ hf => pack_field h hf, fun _ _ hb => pack_outside h hb⟩

/-- A half word stands in the low half of its word. -/
theorem shows_setWidth (w : Half) : Shows (w.setWidth 32) [(0, 16, w.toNat)] := by
  have hpack : w.setWidth 32 = pack [(0, 16, w.toNat)] := by
    apply BitVec.eq_of_toNat_eq
    simp [pack, Nat.mod_eq_of_lt w.isLt]
  rw [hpack]
  exact shows_pack rfl

theorem linkCode_eq (c : CellLine) : linkCode (linkCondition c)
    = if c.mode = .solo then 3 else if c.mode = .noSlot then 2 else if c.quiet = 16 then 1 else 0 := by
  unfold linkCondition
  split
  · next h => rw [h]; rfl
  · next h => rw [h]; rfl
  all_goals
    next h =>
    rw [h]
    exact apply_ite linkCode (c.quiet = Config.quietLimit) .lost .good

theorem busy_eq (r : RecordStore) : r.busy = decide (r.feed ≠ none) := by
  unfold RecordStore.busy
  cases r.feed <;> rfl

theorem wordInFlight_eq (r : RecordStore) :
    wordInFlight r = if r.stage = .none then 0 else (r.queue.head?.map (·.word)).getD 0 := by
  unfold wordInFlight
  split
  · next h => rw [if_pos h]
  · next hq hs => rw [if_neg hs, hq]; rfl
  · next hq hs => rw [if_neg hs, hq]; rfl

theorem shows_statusWord (s : State) : Shows (statusWord s)
    [ (0, 3, jobCode s.ps.job), (3, 2, phaseCode s.ps.phase), (5, 2, reasonCode s.ps.reason)
    , (7, 4, headCode s.ps.head), (11, 1, bit (decide (s.power = .ready)))
    , (12, 1, bit (decide (s.prs.feed ≠ none))), (13, 4, s.prs.queue.length), (17, 3, answerCode s.jp.answer)
    , (20, 4, s.jp.answers.toNat), (24, 1, bit (attn s)), (25, 3, lineModeCode s.cli.mode)
    , (28, 2, if s.cli.mode = .solo then 3 else if s.cli.mode = .noSlot then 2 else if s.cli.quiet = 16 then 1 else 0)
    , (30, 2, updateStageCode s.prs.stage) ] := by
  rw [statusWord, linkCode_eq, busy_eq]
  exact shows_pack rfl

theorem shows_partWord (s : State) : Shows (partWord s)
    [ (0, 7, s.ps.current.getD 127), (7, 7, s.ps.deferred.length), (14, 8, s.ps.ownCount.toNat)
    , (22, 7, if s.prs.stage = .none then 0 else (s.prs.queue.head?.map (·.word)).getD 0)
    , (29, 1, bit s.ps.marker) ] := by
  rw [partWord, wordInFlight_eq]
  exact shows_pack rfl

theorem configRead_ready {s : State} (h : s.power = .ready) (k : Nat) :
    configRead s k = configWord s.cfg s.cli.station s.cli.strap k := if_pos h

theorem configRead_not_ready {s : State} (h : s.power ≠ .ready) (k : Nat) : configRead s k = 0#32 := if_neg h

theorem mapRead_config_ready {s : State} {k : Nat} (h : s.power = .ready) (h1 : 1 ≤ k) (h2 : k ≤ 15) :
    mapRead s (0xF010 + k - 1) = configWord s.cfg s.cli.station s.cli.strap k := by
  rw [mapRead_config s h1 h2, configRead_ready h]

theorem mapRead_peerFirst {n : Nat} (s : State) (h : n < 16) :
    mapRead s (0xF100 + 2 * n) = peerFirst (s.pva.peer n) := by
  rw [mapRead_peer s (by omega), peerRead, if_pos (by omega), Nat.mul_div_cancel_left n (by decide)]

theorem mapRead_peerSecond {n : Nat} (s : State) (h : n < 16) :
    mapRead s (0xF101 + 2 * n) = peerSecond (s.pva.peer n) := by
  have hodd : 0xF101 + 2 * n = 0xF100 + (2 * n + 1) := by omega
  have hentry : (2 * n + 1) / 2 = n := by omega
  rw [hodd, mapRead_peer s (by omega), peerRead, if_neg (by omega), hentry]

/-! ## Edges -/

theorem latch_eq (s : State) : latch s = { s with
    pe := if s.jp.addr = 0xF001#16 then { s.pe with snap := takeSnapshot s.pe } else s.pe } := by
  unfold latch firstProgress
  split <;> rfl

theorem exec_get_clear {s : State} (ha : Awake s) (hm : s.jp.marker = false) (pickup : Bool) :
    exec (.get pickup) s = .next (getAction (marked .get (s.setTu { s.tu with pickup := pickup }))) := by
  show execGet pickup s = _
  rw [execGet, edge_awake ((portAwake_iff s).2 ha), oneShot_clear (s := s.setTu { s.tu with pickup := pickup }) hm]

theorem exec_peek_clear {s : State} (ha : Awake s) (hm : s.jp.marker = false) :
    exec .peek s = .next (peekAction (marked .peek s)) := by
  show execPeek s = _
  rw [execPeek, edge_awake ((portAwake_iff s).2 ha), oneShot_clear hm]

end Sys2Proof.Machine

namespace Sys2Proof.Proofs

open Sys2Proof.Machine Sys2Proof.Statements

/-- Settles O9: a word of the map is the packed word of its place, and a packed word shows its fields. -/
theorem getAndPeekLoad : Obligations.GetAndPeekLoad := by
  refine ⟨fun pickup s ha hm => ⟨?_, _, ?_, rfl⟩, fun s => ?_⟩
  · rw [exec_get_clear ha hm, getAction, latch_eq]
    rfl
  · rw [exec_peek_clear ha hm, peekAction]
    rfl
  · refine ⟨fun a => mapRead_table s, fun a => mapRead_elsewhere s, shows_statusWord s, shows_pack rfl, rfl, rfl, rfl,
      rfl, rfl, rfl, shows_pack rfl, shows_pack rfl, shows_pack rfl, shows_pack rfl, shows_pack rfl, shows_pack rfl,
      shows_pack rfl, shows_partWord s, fun hp k h1 h2 => ?_, fun hp => ?_, fun n hn => ?_, fun z hz => ?_,
      fun n hn => ?_, rfl, rfl, rfl, rfl, rfl, rfl, rfl, rfl, rfl, rfl, rfl, rfl, rfl, rfl, rfl, rfl, rfl, rfl, rfl,
      rfl, rfl⟩
    · exact (mapRead_config s h1 h2).trans (configRead_not_ready hp k)
    · have hword (k : Nat) (h1 : 1 ≤ k) (h2 : k ≤ 15) := mapRead_config_ready hp h1 h2
      refine ⟨?_, ?_, ?_, ?_, ?_, ?_, ?_, ?_, ?_, ?_, ?_, ?_, ?_, ?_, ?_⟩
      · exact hword 1 (by decide) (by decide) ▸ shows_pack rfl
      · exact hword 2 (by decide) (by decide) ▸ shows_pack rfl
      · exact hword 3 (by decide) (by decide) ▸ shows_pack rfl
      · exact hword 4 (by decide) (by decide) ▸ shows_pack rfl
      · exact hword 5 (by decide) (by decide) ▸ shows_pack rfl
      · exact hword 6 (by decide) (by decide) ▸ shows_pack rfl
      · exact hword 7 (by decide) (by decide) ▸ shows_pack rfl
      · exact hword 8 (by decide) (by decide) ▸ shows_pack rfl
      · exact hword 9 (by decide) (by decide) ▸ shows_pack rfl
      · exact hword 10 (by decide) (by decide) ▸ shows_pack rfl
      · exact hword 11 (by decide) (by decide) ▸ shows_pack rfl
      · exact hword 12 (by decide) (by decide) ▸ shows_pack rfl
      · exact hword 13 (by decide) (by decide) ▸ shows_pack rfl
      · exact hword 14 (by decide) (by decide) ▸ shows_pack rfl
      · exact hword 15 (by decide) (by decide) ▸ shows_pack rfl
    · refine ⟨?_, ?_⟩
      · rw [mapRead_peerFirst s hn]
        exact shows_pack rfl
      · rw [mapRead_peerSecond s hn]
        exact shows_pack rfl
    · rw [mapRead_tally s hz]
      exact shows_pack rfl
    · rw [mapRead_record s hn]
      exact shows_setWidth _

end Sys2Proof.Proofs

/-! PROOFS. The start-up completion: the configuration in use, the rebuilt tally and the first line mode (R133, R186,
R191 to R193). -/

namespace Sys2Proof.Machine

open Sys2Proof.Statements

/-! ## Configuration -/

theorem clampTo_eq_bring {least most : Nat} (h : least ≤ most) (v : Nat) :
    clampTo least most v = bring least most v := by
  unfold clampTo bring
  split_ifs <;> omega

theorem cfgField_eq (w : Half) (lo len : Nat) : cfgField w lo len = bitsOf w lo len := by
  rw [cfgField, bitsOf, BitVec.extractLsb'_toNat, Nat.shiftRight_eq_div_pow]

/-- A field as wide as its word is the word. -/
theorem bitsOf_whole (w : Half) : bitsOf w 0 16 = w.toNat := by
  rw [bitsOf, Nat.pow_zero, Nat.div_one, Nat.mod_eq_of_lt w.isLt]

theorem getLsbD_eq_bitsOf (w : Half) (b : Nat) : w.getLsbD b = decide (bitsOf w b 1 = 1) := by
  rw [bitsOf, ← BitVec.testBit_toNat, Nat.testBit_eq_decide_div_mod_eq]
  rfl

theorem thresholdsInOrder_eq (w : Nat → Half) :
    thresholdsInOrder w = decide (bring 0 1023 (w 4).toNat < bring 0 1023 (w 5).toNat
      ∧ bring 0 1023 (w 5).toNat < bring 0 1023 (w 6).toNat) := by
  simp only [thresholdsInOrder, cfgField_eq, bitsOf_whole, clampTo_eq_bring (Nat.zero_le 1023), Bool.decide_and]

theorem someFieldClamped_eq (w : Nat → Half) :
    someFieldClamped w = rangedFields.any fun r =>
      decide (bring r.2.2.2.1 r.2.2.2.2 (bitsOf (w r.1) r.2.1 r.2.2.1) ≠ bitsOf (w r.1) r.2.1 r.2.2.1) := by
  have hordered : ∀ r ∈ rangedFields, r.2.2.2.1 ≤ r.2.2.2.2 := by decide
  show rangedFields.any _ = _
  rw [Bool.eq_iff_iff, List.any_eq_true, List.any_eq_true]
  refine exists_congr fun r => and_congr_right fun hr => ?_
  simp only [decide_eq_true_eq, cfgField_eq, clampTo_eq_bring (hordered r hr)]

/-- The parameters are clamped field by field, the thresholds replaced as a whole (R54, R191). -/
theorem paramsOfWords_eq (w : Nat → Half) : paramsOfWords w = clamped w (thresholdsInOrder w) := by
  simp (disch := decide) only [paramsOfWords, clamped, cfgField_eq, bitsOf_whole, clampTo_eq_bring, getLsbD_eq_bitsOf,
    Config.factoryTs, Config.factoryGt, Config.factoryTo]

/-! ## Records -/

/-- One record over the tally being rebuilt (R193). -/
def tallyRecord (r : RecordStore) (t : Memory Nat) (p : Nat) : Memory Nat :=
  if recordState (r.nvWord p) = .released then
    Memory.write 0 (recordZone (r.nvWord p)) (saturate 255 (Memory.read 0 t (recordZone (r.nvWord p)) + 1)) t
  else t

theorem rebuiltTally_eq (r : RecordStore) : rebuiltTally r = (List.range 64).foldl (tallyRecord r) [] := rfl

/-- A record of a zone that reads RELEASED. -/
def releasedIn (r : RecordStore) (z p : Nat) : Bool :=
  decide (recordState (r.nvWord p) = .released ∧ recordZone (r.nvWord p) = z)

theorem tallyRecord_wf {r : RecordStore} {t : Memory Nat} (h : Memory.wf 0 t = true) (p : Nat) :
    Memory.wf 0 (tallyRecord r t p) = true := by
  unfold tallyRecord
  split
  · exact memory_wf_write h _ _
  · exact h

theorem tallyRecord_read {r : RecordStore} {t : Memory Nat} (h : Memory.wf 0 t = true) (p z : Nat) :
    Memory.read 0 (tallyRecord r t p) z
      = if releasedIn r z p then min 255 (Memory.read 0 t z + 1) else Memory.read 0 t z := by
  unfold tallyRecord releasedIn
  by_cases hr : recordState (r.nvWord p) = .released
  · by_cases hz : recordZone (r.nvWord p) = z
    · rw [if_pos hr, if_pos (decide_eq_true ⟨hr, hz⟩), hz, memory_read_write_same h]
      rfl
    · rw [if_pos hr, memory_read_write_other _ _ (Ne.symm hz), if_neg]
      simp [hz]
  · rw [if_neg hr, if_neg]
    simp [hr]

/-- A tally that counts a zone up to 255 counts on so over any run of records. -/
theorem foldl_tallyRecord_read {r : RecordStore} {z : Nat} (ps : List Nat) {t : Memory Nat} {n : Nat}
    (hwf : Memory.wf 0 t = true) (ht : Memory.read 0 t z = min 255 n) :
    Memory.read 0 (ps.foldl (tallyRecord r) t) z = min 255 (n + ps.countP (releasedIn r z)) := by
  induction ps generalizing t n with
  | nil => exact ht
  | cons p ps ih =>
    rw [List.foldl_cons, List.countP_cons]
    by_cases hp : releasedIn r z p = true
    · rw [ih (n := n + 1) (tallyRecord_wf hwf p), if_pos hp]
      · congr 1
        omega
      · rw [tallyRecord_read hwf, if_pos hp, ht]
        omega
    · rw [ih (n := n) (tallyRecord_wf hwf p), if_neg hp, Nat.add_zero]
      rw [tallyRecord_read hwf, if_neg hp, ht]

theorem rebuiltTally_read (r : RecordStore) (z : Nat) :
    Memory.read 0 (rebuiltTally r) z = min 255 ((List.range 64).countP fun p =>
      decide (recordState (r.nvWord p) = .released ∧ recordZone (r.nvWord p) = z)) := by
  rw [rebuiltTally_eq, foldl_tallyRecord_read (n := 0) _ rfl rfl, Nat.zero_add]
  unfold releasedIn
  rfl

/-! ## The completion -/

theorem ite_raiseFlag (p : Prop) [Decidable p] (b : Nat) (s : State) :
    (if p then raiseFlag b s else s) =
      s.setJp { s.jp with flags := s.jp.flags ||| if p then 1#16 <<< b else 0#16 } := by
  split
  · rfl
  · rw [BitVec.or_zero]
    rfl

theorem completeStartUp_eq (s : State) :
    completeStartUp s =
      let c := paramsOfWords (storedConfig s)
      let line := startLine c s.now s.cli
      { s with
          power := .ready, cfg := c, cli := line
          ps := { s.ps with ownCount := BitVec.ofNat 8 (releasedRecords s.prs) }
          pva := { s.pva with tally := rebuiltTally s.prs }
          prs := { s.prs with announced := s.prs.nvWord Config.plateWord }
          jp := { s.jp with
            mask := c.attnMask
            flags := s.jp.flags ||| (if configClamped (storedConfig s) = true then 1#16 <<< flagConfigClamped else 0#16)
              ||| (if line.mode = .noSlot then 1#16 <<< flagLineLost else 0#16) } } := by
  unfold completeStartUp
  simp only [ite_raiseFlag]
  rfl

/-- The first own slot comes two rounds later in LISTEN and one round later in SOLO and NO_SLOT (R144, R150, R151). -/
theorem startLine_nextSlot (c : Params) (now : Nat) (l : CellLine) :
    (startLine c now l).nextSlot
      = some (now + (if (startLine c now l).mode = .listen then 2 else 1) * (c.cellSize * 128)) := by
  rw [ite_mul, Nat.one_mul]
  exact congrArg some (apply_ite (now + ·) _ _ _).symm

theorem exec_startUpCompletion_starting {s : State} (h : s.power = .starting) (t : Nat) :
    exec (.startUpCompletion t) s = .next (completeStartUp (s.atTime t)) := if_pos h

end Sys2Proof.Machine

namespace Sys2Proof.Proofs

open Sys2Proof.Machine Sys2Proof.Statements

/-- Settles O5: the completion is written out block by block; clamping is field by field, and the tally counts the
RELEASED records of each zone up to 255. -/
theorem startUpCompletion : Obligations.StartUpCompletion := by
  intro t s hpower w inOrder someClamped
  have horder : inOrder = thresholdsInOrder w := (thresholdsInOrder_eq w).symm
  have hclamped : (configClamped w = true) = (someClamped = true ∨ inOrder = false) := by
    rw [horder, configClamped, someFieldClamped_eq, Bool.or_eq_true, Bool.not_eq_true']
  refine ⟨_, exec_startUpCompletion_starting hpower t, ?_⟩
  rw [completeStartUp_eq]
  refine ⟨rfl, rfl, ?_, rfl, rfl, rfl, fun z => ?_, rfl, rfl, startLine_nextSlot _ _ _, rfl, rfl,
    rfl, fun h => if_pos h, ?_, rfl,
    rfl, rfl, rfl, rfl⟩
  · rw [horder]
    exact paramsOfWords_eq w
  · dsimp only
    rw [rebuiltTally_read]
    rfl
  · simp only [← hclamped]
    rfl

end Sys2Proof.Proofs

/-! PROOFS. The walk of the phases as the statements give it: a part's update and what it notes, the parts the phases
take, the boundary, and the walk itself (R112, R115 to R118, R122 to R125, R131). -/

namespace Sys2Proof.Machine

open Sys2Proof.Statements

/-! ## Updates and waits -/

theorem resultFlags_eq (r : RecState) (flags : Half) : resultFlags r flags = withResult r flags := by
  cases r <;> rfl

/-- An update that joins is noted in one go (R115, R117, R121, R122). -/
theorem noteUpdate_queueUpdate (u : PartUpdate) (s : State) : noteUpdate u (queueUpdate u s) = noted u s := by
  by_cases h : u.state = .released
  · simp only [noteUpdate, noted, resultFlags_eq, if_pos h]
    rfl
  · simp only [noteUpdate, noted, resultFlags_eq, if_neg h]
    rfl

theorem updateOf_eq (p : Nat) (r : RecState) (s : State) : updateOf p r s = updateTo r p s := rfl

theorem enterWaitThread_eq (p : Purpose) (s : State) :
    enterWaitThread p s = { s with
      ps := { s.ps with head := .waitThread, activity := .waitThread p }
      pva := { s.pva with intent := newIntent .thread s.now } } := rfl

theorem enterWaitRelease_eq (s : State) :
    enterWaitRelease s = { s with
      ps := { s.ps with head := .waitRelease, activity := .waitRelease }
      pva := { s.pva with intent := newIntent .release s.now } } := rfl

theorem requestTraverse_eq (target : Int × Int) (p : Purpose) (s : State) :
    requestTraverse target p s = sentTo target p s := rfl

theorem sentTo_there {target : Int × Int} {s : State} (h : s.pe.posX = target.1 ∧ s.pe.posY = target.2) (p : Purpose) :
    sentTo target p s = arrive p s := if_pos h

theorem sentTo_away {target : Int × Int} {s : State} (h : ¬ (s.pe.posX = target.1 ∧ s.pe.posY = target.2))
    (p : Purpose) :
    sentTo target p s = { s with
      pe := { s.pe with
        engine := .traverse, stepTimer := some s.now
        traverse := some { sx := s.pe.posX, sy := s.pe.posY, tx := target.1, ty := target.2, moving := true } }
      ps := { s.ps with head := .traverse, activity := .traversing p } } := if_neg h

theorem takeRough_eq (p : Nat) (s : State) : takeRough p s = roughTaken p s := rfl

theorem takeRelease_eq (p : Nat) (a : Option Nat) (s : State) : takeRelease p a s = releaseTaken p a s := rfl

theorem quietHead_eq (h shown : HeadState) :
    quietHead h shown = if h = .waitThread ∨ h = .threading ∨ h = .waitRelease then shown else h := by
  cases h <;> rfl

theorem showHead_of_halted {s : State} (h : s.ps.job = .halted) (hd : HeadState) : showHead hd s = s := if_pos h

theorem showHead_of_not_halted {s : State} (h : s.ps.job ≠ .halted) (hd : HeadState) :
    showHead hd s = { s with ps := { s.ps with head := hd } } := if_neg h

theorem showHead_of_running {s : State} (h : s.ps.job = .running) (hd : HeadState) :
    showHead hd s = { s with ps := { s.ps with head := hd } } := showHead_of_not_halted (by rw [h]; decide) hd

/-! ## The boundary -/

theorem atBoundary_marked {s : State} (h : s.ps.marker = true) : atBoundary s = haltForRecord s := if_pos h

theorem atBoundary_unmarked {s : State} (h : s.ps.marker = false) : atBoundary s = setActivity .boundary s :=
  if_neg (by simp [h])

theorem completePhase_eq (s : State) : completePhase s = if s.ps.marker then atBoundary s else jobDone s := by
  unfold completePhase
  split
  · next h => exact (atBoundary_marked h).symm
  · rfl

/-- With the record-fault marker set, or the job not RUNNING, the walk stands at the boundary (R109, R131). -/
theorem partBoundary_stands {s : State} (h : s.ps.marker = true ∨ s.ps.job ≠ .running) :
    partBoundary s = atBoundary s := by
  unfold partBoundary
  split
  · next hm => exact (atBoundary_marked hm).symm
  · next hm =>
    rw [if_neg (h.resolve_left hm), atBoundary_unmarked (by simpa using hm)]

theorem partBoundary_walks {s : State} (hm : s.ps.marker = false) (hj : s.ps.job = .running) :
    partBoundary s = walk walkBound s := by
  rw [partBoundary, if_neg (by simp [hm]), if_pos hj]

/-! ## The parts the phases take -/

/-- Searching a range from `n` on finds the lowest number there that passes. -/
theorem find?_range_from_eq_some_iff {m n p : Nat} {ok : Nat → Bool} :
    (List.range m).find? (fun q => decide (n ≤ q) && ok q) = some p ↔ FirstFrom n (fun q => q < m ∧ ok q = true) p := by
  rw [List.find?_range_eq_some]
  simp only [Bool.and_eq_true, decide_eq_true_eq, List.mem_range, Bool.not_eq_true', Bool.and_eq_false_iff,
    decide_eq_false_iff_not]
  constructor
  · rintro ⟨⟨hfrom, hok⟩, hp, hleast⟩
    refine ⟨hfrom, ⟨hp, hok⟩, fun q hq hqp ⟨_, hqok⟩ => ?_⟩
    exact (hleast q hqp).elim (fun h => h hq) fun h => by simp [hqok] at h
  · rintro ⟨hfrom, ⟨hp, hok⟩, hleast⟩
    refine ⟨⟨hfrom, hok⟩, hp, fun q hqp => ?_⟩
    by_cases hq : n ≤ q
    · exact Or.inr (by simpa using fun h => hleast q hq hqp ⟨hqp.trans hp, h⟩)
    · exact Or.inl hq

theorem find?_range_from_eq_none_iff {m n : Nat} {ok : Nat → Bool} :
    (List.range m).find? (fun q => decide (n ≤ q) && ok q) = none ↔ ∀ q, n ≤ q → ¬ (q < m ∧ ok q = true) := by
  rw [List.find?_eq_none]
  simp only [List.mem_range, Bool.and_eq_true, decide_eq_true_eq]
  exact ⟨fun h q hq ⟨hp, hok⟩ => h q hp ⟨hq, hok⟩, fun h q hp ⟨hq, hok⟩ => h q hq ⟨hp, hok⟩⟩

theorem findPart_eq_some_iff {s : State} {ok : Nat → Bool} {p : Nat} :
    findPart s ok = some p ↔ FirstFrom s.ps.scan (fun q => q < s.js.partCount ∧ ok q = true) p :=
  find?_range_from_eq_some_iff

theorem findPart_eq_none_iff {s : State} {ok : Nat → Bool} :
    findPart s ok = none ↔ ∀ q, s.ps.scan ≤ q → ¬ (q < s.js.partCount ∧ ok q = true) :=
  find?_range_from_eq_none_iff

theorem heldAs_uncut_eq (s : State) :
    (fun q => q < s.js.partCount ∧ decide (heldState s q = .state .uncut) = true) = HeldAs .uncut s := by
  funext q
  rw [decide_eq_true_eq]
  rfl

theorem releasable_eq (s : State) :
    (fun q => q < s.js.partCount ∧ (decide (heldState s q = .state .tabbed)
      && decide ((s.js.part q).policy = policyDrop ∨ (s.js.part q).policy = policyTabRelease)
      && !(s.ps.deferred.any fun d => decide (d.1 = q))) = true) = Releasable s := by
  funext q
  unfold heldState Releasable HeldAs
  simp only [Bool.and_eq_true, decide_eq_true_eq, Bool.not_eq_true', List.any_eq_false, and_assoc]

theorem nextUncut_eq_some_iff {s : State} {p : Nat} :
    nextUncut s = some p ↔ FirstFrom s.ps.scan (HeldAs .uncut s) p := by
  rw [nextUncut, findPart_eq_some_iff, heldAs_uncut_eq]

theorem nextUncut_eq_none_iff {s : State} : nextUncut s = none ↔ ∀ q, s.ps.scan ≤ q → ¬ HeldAs .uncut s q := by
  rw [nextUncut, findPart_eq_none_iff, ← heldAs_uncut_eq]

theorem nextTabbed_eq_some_iff {s : State} {p : Nat} :
    nextTabbed s = some p ↔ FirstFrom s.ps.scan (Releasable s) p := by
  rw [nextTabbed, findPart_eq_some_iff, releasable_eq]

theorem nextTabbed_eq_none_iff {s : State} : nextTabbed s = none ↔ ∀ q, s.ps.scan ≤ q → ¬ Releasable s q := by
  rw [nextTabbed, findPart_eq_none_iff, ← releasable_eq]

theorem budgetPasses_iff (s : State) (p : Nat) : budgetPasses s (s.js.part p).zone = true ↔ BudgetOk s p := by
  rw [budgetPasses, decide_eq_true_eq]
  rfl

/-! ## The walk -/

theorem walk_rough_takes {n p : Nat} {s : State} (hphase : s.ps.phase = .rough) (hp : nextUncut s = some p) :
    walk (n + 1) s = roughTaken p s := by
  simp only [walk, hphase, hp]
  rfl

theorem walk_rough_ends {n : Nat} {s : State} (hphase : s.ps.phase = .rough) (hp : nextUncut s = none) :
    walk (n + 1) s = walk n { s with ps := { s.ps with phase := .release, scan := 0 } } := by
  simp only [walk, hphase, hp]
  rfl

theorem walk_release_ends {n : Nat} {s : State} (hphase : s.ps.phase = .release) (hchoose : chooseRelease s = none) :
    walk (n + 1) s = if s.ps.marker then atBoundary s else jobDone s := by
  simp only [walk, hphase, hchoose, completePhase_eq]

/-- A chosen part whose budget passes is taken up (R125). -/
theorem walk_release_takes {n p : Nat} {a : Option Nat} {s : State} {b : Sequencer} (hphase : s.ps.phase = .release)
    (hchoose : chooseRelease s = some (p, a, s.setPs b)) (hbudget : BudgetOk s p) :
    walk (n + 1) s = releaseTaken p a (s.setPs b) := by
  have hpasses : budgetPasses (s.setPs b) ((s.setPs b).js.part p).zone = true := (budgetPasses_iff s p).2 hbudget
  simp only [walk, hphase, hchoose, hpasses, if_true]
  rfl

/-- A part whose budget fails, tried: its zone is that of the last part taken up, and it stays out of `current`
(log 13, log 44). -/
def tried (p : Nat) (b : Sequencer) (s : State) : State := s.setPs { b with takenZone := (s.js.part p).zone }

/-- A chosen part whose budget fails is HELD where its update can join, and the walk goes on or halts (R124, R131). -/
theorem walk_release_holds {n p : Nat} {a : Option Nat} {s : State} {b : Sequencer} (hphase : s.ps.phase = .release)
    (hchoose : chooseRelease s = some (p, a, s.setPs b)) (hbudget : ¬ BudgetOk s p) (hjoin : s.prs.canJoin p = true) :
    walk (n + 1) s =
      if b.marker then atBoundary (noted (updateTo .held p s) (tried p b s))
      else walk n (noted (updateTo .held p s) (tried p b s)) := by
  have hfails : budgetPasses (s.setPs b) ((s.setPs b).js.part p).zone ≠ true := mt (budgetPasses_iff s p).1 hbudget
  simp only [walk, hphase, hchoose, hfails, State.setPs_prs, hjoin, noteUpdate_queueUpdate, if_true]
  show (if b.marker = true then haltForRecord _ else _) = _
  split
  · next hm => exact (atBoundary_marked (s := noted (updateTo .held p s) (tried p b s)) hm).symm
  · rfl

/-- A chosen part whose budget fails waits for queue room where its update cannot join (R116, R124). -/
theorem walk_release_waits {n p : Nat} {a : Option Nat} {s : State} {b : Sequencer} (hphase : s.ps.phase = .release)
    (hchoose : chooseRelease s = some (p, a, s.setPs b)) (hbudget : ¬ BudgetOk s p) (hjoin : s.prs.canJoin p = false) :
    walk (n + 1) s = (tried p b s).setPs { (tried p b s).ps with
      head := if b.head = .waitThread ∨ b.head = .threading ∨ b.head = .waitRelease then .idle else b.head
      activity := .recordWait (updateTo .held p s) .nextPart false } := by
  have hfails : budgetPasses (s.setPs b) ((s.setPs b).js.part p).zone ≠ true := mt (budgetPasses_iff s p).1 hbudget
  simp only [walk, hphase, hchoose, hfails, State.setPs_prs, hjoin, quietHead_eq, Bool.false_eq_true, if_false]
  rfl

theorem chooseRelease_of_tabbed {s : State} {p : Nat} (h : FirstFrom s.ps.scan (Releasable s) p) :
    chooseRelease s = some (p, none, s.setPs { s.ps with scan := p + 1 }) := by
  simp only [chooseRelease, nextTabbed_eq_some_iff.2 h]

theorem chooseRelease_of_deferred {s : State} {p k : Nat} {rest : List (Nat × Nat)}
    (h : ∀ q, s.ps.scan ≤ q → ¬ Releasable s q) (hd : s.ps.deferred = (p, k) :: rest) :
    chooseRelease s = some (p, some k, s.setPs { s.ps with scan := s.js.partCount, deferred := rest }) := by
  simp only [chooseRelease, nextTabbed_eq_none_iff.2 h, hd]

theorem chooseRelease_of_none {s : State} (h : ∀ q, s.ps.scan ≤ q → ¬ Releasable s q) (hd : s.ps.deferred = []) :
    chooseRelease s = none := by
  simp only [chooseRelease, nextTabbed_eq_none_iff.2 h, hd]

/-- The walk of the release phase goes on as the statements give it, however many more parts it may pass over. -/
theorem releaseGoesOn_walk {n m : Nat} (hnm : n ≤ m) {s : State} (hphase : s.ps.phase = .release) :
    ReleaseGoesOn n (.next (walk m s)) s := by
  induction n generalizing m s with
  | zero => trivial
  | succ n ih =>
    obtain ⟨m, rfl⟩ : ∃ k, m = k + 1 := ⟨m - 1, by omega⟩
    have hgoes {b : Sequencer} (p : Nat) (hb : b.phase = .release) :
        ReleaseGoesOn n (.next (walk m (noted (updateTo .held p s) (tried p b s))))
          (noted (updateTo .held p s) (tried p b s)) := ih (by omega) hb
    refine ⟨fun p hp => ?_, fun p k rest hmade hd => ?_, fun hmade hd => ?_⟩
    · have hchoose := chooseRelease_of_tabbed hp
      refine ⟨fun hbudget => ?_, fun hbudget hjoin => ⟨fun hm => ?_, fun hm => ?_⟩, fun hbudget hjoin => ?_⟩
      · rw [walk_release_takes hphase hchoose hbudget]
        rfl
      · rw [walk_release_holds hphase hchoose hbudget hjoin, if_pos hm]
        rfl
      · rw [walk_release_holds hphase hchoose hbudget hjoin, if_neg (by simp [hm])]
        exact hgoes p hphase
      · rw [walk_release_waits hphase hchoose hbudget hjoin]
        rfl
    · have hchoose := chooseRelease_of_deferred hmade hd
      refine ⟨fun hbudget => ?_, fun hbudget hjoin => ⟨fun hm => ?_, fun hm => ?_⟩, fun hbudget hjoin => ?_⟩
      · rw [walk_release_takes hphase hchoose hbudget]
        rfl
      · rw [walk_release_holds hphase hchoose hbudget hjoin, if_pos hm]
        rfl
      · rw [walk_release_holds hphase hchoose hbudget hjoin, if_neg (by simp [hm])]
        exact hgoes p hphase
      · rw [walk_release_waits hphase hchoose hbudget hjoin]
        rfl
    · rw [walk_release_ends hphase (chooseRelease_of_none hmade hd)]

/-- A walk from a boundary in RUNNING is the walk of the statements. -/
theorem walksOn_walk (s : State) : WalksOn (.next (walk walkBound s)) s := by
  refine ⟨fun p hphase hp => ?_, fun hphase hnone => ?_, fun hphase => releaseGoesOn_walk (by decide) hphase⟩
  · rw [walkBound, walk_rough_takes hphase (nextUncut_eq_some_iff.2 hp)]
  · rw [walkBound, walk_rough_ends hphase (nextUncut_eq_none_iff.2 hnone)]
    exact releaseGoesOn_walk (Nat.le_refl _) rfl

/-- A part boundary is where the statements let a finished part go on. -/
theorem goesOn_partBoundary (s : State) : GoesOn (.next (partBoundary s)) s :=
  ⟨fun h => congrArg _ (partBoundary_stands h), fun hm hj => partBoundary_walks hm hj ▸ walksOn_walk s⟩

/-! ## The answer of an order, and the walk it begins -/

theorem noted_recordAnswer (u : PartUpdate) (a : Answer) (s : State) :
    noted u (recordAnswer a s) = recordAnswer a (noted u s) := rfl

theorem sentTo_recordAnswer (target : Int × Int) (p : Purpose) (a : Answer) (s : State) :
    sentTo target p (recordAnswer a s) = recordAnswer a (sentTo target p s) := by
  by_cases h : s.pe.posX = target.1 ∧ s.pe.posY = target.2
  · rw [sentTo_there h, sentTo_there (s := recordAnswer a s) h]
    rfl
  · rw [sentTo_away h, sentTo_away (s := recordAnswer a s) h]
    rfl

theorem takeRough_recordAnswer (p : Nat) (a : Answer) (s : State) :
    takeRough p (recordAnswer a s) = recordAnswer a (takeRough p s) :=
  sentTo_recordAnswer _ _ a (s.setPs { s.ps with
    current := some p, attempts := none, scan := p + 1, takenZone := (s.js.part p).zone })

theorem takeRelease_recordAnswer (p : Nat) (n : Option Nat) (a : Answer) (s : State) :
    takeRelease p n (recordAnswer a s) = recordAnswer a (takeRelease p n s) :=
  sentTo_recordAnswer _ _ a (s.setPs { s.ps with
    current := some p, attempts := n, takenZone := (s.js.part p).zone })

theorem atBoundary_recordAnswer (a : Answer) (s : State) :
    atBoundary (recordAnswer a s) = recordAnswer a (atBoundary s) := by
  cases h : s.ps.marker with
  | true =>
    rw [atBoundary_marked h, atBoundary_marked (s := recordAnswer a s) h]
    rfl
  | false =>
    rw [atBoundary_unmarked h, atBoundary_unmarked (s := recordAnswer a s) h]
    rfl

theorem completePhase_recordAnswer (a : Answer) (s : State) :
    completePhase (recordAnswer a s) = recordAnswer a (completePhase s) := by
  have hmarker : (recordAnswer a s).ps.marker = s.ps.marker := rfl
  rw [completePhase_eq, completePhase_eq, atBoundary_recordAnswer, hmarker]
  split <;> rfl

theorem chooseRelease_recordAnswer (a : Answer) (s : State) :
    chooseRelease (recordAnswer a s) = (chooseRelease s).map fun c => (c.1, c.2.1, recordAnswer a c.2.2) := by
  have hnext : nextTabbed (recordAnswer a s) = nextTabbed s := rfl
  have hdeferred : (recordAnswer a s).ps.deferred = s.ps.deferred := rfl
  unfold chooseRelease
  rw [hnext, hdeferred]
  cases nextTabbed s with
  | some p => rfl
  | none => cases s.ps.deferred <;> rfl

/-- The walk neither reads nor changes the answer (R202). -/
theorem walk_recordAnswer (n : Nat) (a : Answer) (s : State) :
    walk n (recordAnswer a s) = recordAnswer a (walk n s) := by
  induction n generalizing s with
  | zero => rfl
  | succ n ih =>
    have hphase : (recordAnswer a s).ps.phase = s.ps.phase := rfl
    have huncut : nextUncut (recordAnswer a s) = nextUncut s := rfl
    unfold walk
    rw [hphase, huncut, chooseRelease_recordAnswer]
    cases s.ps.phase with
    | none => rfl
    | rough =>
      cases nextUncut s with
      | none => exact ih (s.setPs { s.ps with phase := .release, scan := 0 })
      | some p => exact takeRough_recordAnswer p a s
    | release =>
      cases chooseRelease s with
      | none => exact completePhase_recordAnswer a s
      | some c =>
        obtain ⟨p, attempts, t⟩ := c
        dsimp only [Option.map_some]
        have hbudget : budgetPasses (recordAnswer a t) ((recordAnswer a t).js.part p).zone
            = budgetPasses t (t.js.part p).zone := rfl
        rw [hbudget]
        split
        · exact takeRelease_recordAnswer p attempts a t
        · have hprs : (recordAnswer a t).prs = t.prs := rfl
          have hgo (m : State) :
              (if t.ps.marker then haltForRecord (recordAnswer a m) else walk n (recordAnswer a m))
                = recordAnswer a (if t.ps.marker then haltForRecord m else walk n m) := by
            rw [ih]
            split <;> rfl
          cases hjoin : t.prs.canJoin p with
          | true =>
            simp only [State.setPs_prs, hprs, hjoin, noteUpdate_queueUpdate, if_true]
            exact hgo (noted (updateTo .held p t) (tried p t.ps t))
          | false =>
            simp only [State.setPs_prs, hprs, hjoin, Bool.false_eq_true, if_false]
            rfl

theorem partBoundary_recordAnswer (a : Answer) (s : State) :
    partBoundary (recordAnswer a s) = recordAnswer a (partBoundary s) := by
  by_cases h : s.ps.marker = true ∨ s.ps.job ≠ .running
  · rw [partBoundary_stands h, partBoundary_stands (s := recordAnswer a s) h, atBoundary_recordAnswer]
  · simp only [not_or, not_not, Bool.not_eq_true] at h
    obtain ⟨hm, hj⟩ := h
    rw [partBoundary_walks hm hj, partBoundary_walks (s := recordAnswer a s) hm hj, walk_recordAnswer]

end Sys2Proof.Machine

/-! PROOFS. What follows an update in its sequence (R104, R115, R116), a retract step begun and completed (R64), and
the orders START and HALT (R108, R109). -/

namespace Sys2Proof.Machine

open Sys2Proof.Statements

/-! ## An update and what follows it -/

theorem settle_joins {u : PartUpdate} {s : State} (h : s.prs.canJoin u.part = true) (k : Follow) (hd : HeadState) :
    settle u k hd s = followUp k (noted u s) := by
  rw [settle, if_pos h, noteUpdate_queueUpdate]

theorem settle_waits {u : PartUpdate} {s : State} (h : s.prs.canJoin u.part = false) (k : Follow) (hd : HeadState) :
    settle u k hd s = setActivity (.recordWait u k false) (showHead hd s) := by
  rw [settle, if_neg (by simp [h])]
  rfl

theorem requestUnthread_idle {s : State} (h : s.tu.stage = .idle) : requestUnthread s = partBoundary s := if_pos h

theorem requestUnthread_threaded {s : State} (h : s.tu.stage = .threaded) :
    requestUnthread s =
      showHead .unthreading (setActivity .unthreading { s with tu := unthreadingSince s.now s.tu }) := by
  rw [requestUnthread, if_neg (by rw [h]; decide), unitUnthread, if_pos h]
  rfl

theorem goOn_running {s : State} (h : s.ps.job = .running) (k : Follow) : goOn k s = followUp k s :=
  if_pos (decide_eq_true h)

theorem goOn_halted {s : State} (h : s.ps.job = .halted) {k : Follow}
    (hk : k = .loadRough ∨ k = .threadAgain ∨ k = .unthread) : goOn k s = setActivity (.recordJoined k) s := by
  have hjob : jobRunning s ≠ true := by simp [jobRunning, h]
  rcases hk with rfl | rfl | rfl <;> exact if_neg hjob

theorem goOn_halted_nextPart {s : State} (h : s.ps.job = .halted) : goOn .nextPart s = atBoundary s :=
  (if_neg (by simp [jobRunning, h])).trans (partBoundary_stands (Or.inr (by rw [h]; decide)))

theorem goOn_halted_unthreadRunning {s : State} (h : s.ps.job = .halted) :
    goOn .unthreadRunning s = setActivity .unthreading s :=
  (if_neg (by simp [jobRunning, h])).trans (showHead_of_halted (s := setActivity .unthreading s) h _)

/-! ## A retract step asked for -/

theorem retractOnce_at {s t : State} (hpe : t.pe = s.pe) (hgc : t.gc = s.gc) (hjs : t.js = s.js)
    (hnow : t.now = s.now) :
    retractOnce t = { t with pe := (retractOnce s).pe, gc := (retractOnce s).gc } := by
  have hback (st : PathStep) : enginesBack st t = enginesBack st s := by
    rw [enginesBack, enginesBack, passEntry, passEntry, hpe, hjs, hnow]
  unfold retractOnce
  rw [hgc]
  cases s.gc.log with
  | nil =>
    show t = { t with pe := s.pe, gc := s.gc }
    rw [← hpe, ← hgc]
  | cons st rest =>
    dsimp only
    rw [hback, ← hnow]
    rfl

/-- Completing a retract step reads and writes the engine and Gap Control, whatever the other blocks hold (R64). -/
theorem completeAsked_at {s t : State} (hpe : t.pe = s.pe) (hgc : t.gc = s.gc) (hjs : t.js = s.js)
    (hnow : t.now = s.now) :
    completeAsked t = { t with pe := (completeAsked s).pe, gc := (completeAsked s).gc } := by
  unfold completeAsked
  rw [hgc]
  cases s.gc.asked with
  | true => exact retractOnce_at hpe hgc hjs hnow
  | false =>
    show t = { t with pe := s.pe, gc := s.gc }
    rw [← hpe, ← hgc]

/-! ## START -/

theorem exec_start_armed {s : State} (ho : OrderArrives orderStart s) (hjob : s.ps.job = .armed) :
    exec .start s = .next (walk walkBound (answeredOnly .accepted { s with
      ps := { s.ps with job := .running, phase := .rough, reason := .none, scan := 0, attempts := none }
      pe := { s.pe with engine := .standby } })) := by
  have hrule : startRule (marked .order s) = (.accepted, walk walkBound (marked .order { s with
      ps := { s.ps with job := .running, phase := .rough, reason := .none, scan := 0, attempts := none }
      pe := { s.pe with engine := .standby } })) := if_pos hjob
  show execStart s = _
  rw [execStart, orderEdge_answered ho hrule, ← walk_recordAnswer, recordAnswer_marked]

/-! ## HALT -/

/-- A HALT taken in RUNNING stops what the head was doing (R109). -/
theorem exec_halt_running {s : State} (ho : OrderArrives orderHalt s) (hjob : s.ps.job = .running) :
    exec .halt s = .next (recordAnswer .accepted (haltActivity (marked .order { s with ps := halted s.ps }))) := by
  have hrule : haltRule (marked .order s) = (.accepted, haltActivity (marked .order { s with ps := halted s.ps })) :=
    if_pos hjob
  show execHalt s = _
  rw [execHalt, orderEdge_answered ho hrule]

/-- HALT at an activity, where what it does there is known. -/
theorem exec_halt_at {s : State} {x : Activity} (ho : OrderArrives orderHalt s) (hjob : s.ps.job = .running)
    (hx : s.ps.activity = x) {f : State → State} (hf : ∀ t : State, t.ps.activity = x → haltActivity t = f t) :
    exec .halt s = .next (recordAnswer .accepted (f (marked .order { s with ps := halted s.ps }))) := by
  rw [exec_halt_running ho hjob, hf (marked .order { s with ps := halted s.ps }) hx]

theorem haltPass_at {s t : State} (hpe : t.pe = s.pe) (hgc : t.gc = s.gc) (hjs : t.js = s.js) (hnow : t.now = s.now) :
    haltPass t = { t with
      pe := { (completeAsked s).pe with
        sub := some .stopped, remembered := (completeAsked s).pe.sub, stepTimer := none }
      gc := { (completeAsked s).gc with halted := true, asked := false, stepTimer := none, stallTimer := none } } := by
  unfold haltPass
  dsimp only
  rw [completeAsked_at hpe hgc hjs hnow]
  rfl

theorem atBoundary_answeredOnly (a : Answer) (s : State) :
    atBoundary (answeredOnly a s) = answeredOnly a (atBoundary s) := by
  cases h : s.ps.marker with
  | true =>
    rw [atBoundary_marked h, atBoundary_marked (s := answeredOnly a s) h]
    rfl
  | false =>
    rw [atBoundary_unmarked h, atBoundary_unmarked (s := answeredOnly a s) h]
    rfl

end Sys2Proof.Machine

namespace Sys2Proof.Proofs

open Sys2Proof.Machine Sys2Proof.Statements

/-- Settles O18: the walk that START begins is that of the statements, and its first clause is the traverse. -/
theorem startTakesFirstPart : Obligations.StartTakesFirstPart := by
  intro s ho
  refine ⟨fun hjob => congrArg Host.Outcome.next (orderEdge_answeredOnly ho (if_neg hjob)),
    fun p hjob hp huncut hleast haway => ?_, fun hjob => exec_start_armed ho hjob ▸ walksOn_walk _⟩
  have hwalks := exec_start_armed ho hjob ▸ walksOn_walk _
  have hfirst : FirstFrom 0 (HeldAs .uncut s) p := ⟨Nat.zero_le p, ⟨hp, huncut⟩, fun q _ hqp h => hleast q hqp h.2⟩
  rw [hwalks.1 p rfl hfirst]
  refine congrArg Host.Outcome.next ?_
  show sentTo _ _ _ = _
  rw [sentTo_away]
  · rfl
  · exact fun h => haway (Prod.ext h.1 h.2)

/-- Settles O19, by what the head was doing. -/
theorem haltStops : Obligations.HaltStops := by
  intro s ho
  refine ⟨fun hjob => congrArg Host.Outcome.next (orderEdge_answeredOnly ho (if_neg hjob)), fun hjob => ?_⟩
  refine ⟨fun p hact => exec_halt_at ho hjob hact (f := haltTraverse) fun t ht => by rw [haltActivity, ht],
    fun hact => ?_, fun p hact hstage => ?_, fun hact => ?_, fun hact => ?_, fun u k hk hact => ?_, fun u hact => ?_,
    fun u hact => ?_⟩
  · rcases hact with hact | ⟨p, hact⟩ <;>
      exact exec_halt_at ho hjob hact (f := endIntent) fun t ht => by rw [haltActivity, ht]
  · rw [exec_halt_at ho hjob hact (f := fun t => setActivity (.waitThread p)
      (if t.tu.stage.threading then t.setTu (unitPause t.tu) else t)) fun t ht => by rw [haltActivity, ht]]
    exact congrArg (fun t => Host.Outcome.next (recordAnswer .accepted (setActivity (.waitThread p) t))) (if_pos hstage)
  · rw [exec_halt_at ho hjob hact (f := haltPass) fun t ht => by rw [haltActivity, ht],
      haltPass_at (t := marked .order { s with ps := halted s.ps }) (s := s) rfl rfl rfl rfl]
    rfl
  · rcases hact with hact | hact | ⟨u, k, hact⟩ <;>
      exact exec_halt_at ho hjob hact (f := id) fun t ht => by rw [haltActivity, ht]; rfl
  · rw [exec_halt_at ho hjob hact (f := goOn k) fun t ht => by rw [haltActivity, ht], goOn_halted rfl hk]
    rfl
  · rw [exec_halt_at ho hjob hact (f := goOn .unthreadRunning) fun t ht => by rw [haltActivity, ht],
      goOn_halted_unthreadRunning rfl]
    rfl
  · rw [exec_halt_at ho hjob hact (f := goOn .nextPart) fun t ht => by rw [haltActivity, ht],
      goOn_halted_nextPart rfl, ← atBoundary_recordAnswer, recordAnswer_marked, atBoundary_answeredOnly]

end Sys2Proof.Proofs

/-! PROOFS. The ABORT order: its one record update, and everything under way dropped (R9, R111). -/

namespace Sys2Proof.Machine

open Sys2Proof.Statements

/-! ## The update -/

theorem abortThreading_result {kind : PassKind} {u : Purpose} {r : RecState} (h : abortThreading kind u = some r) :
    r = .held ∨ r = .abandoned := by
  unfold abortThreading at h
  split at h
  · cases h
  · cases h
  · exact Or.inr (Option.some.inj h).symm
  · split at h
    · exact Or.inl (Option.some.inj h).symm
    · exact Or.inr (Option.some.inj h).symm
  · exact Or.inl (Option.some.inj h).symm

/-- An ABORT makes a part HELD or ABANDONED, never anything else (R111). -/
theorem abortState_result {s : State} {r : RecState} (h : abortState s = some r) : r = .held ∨ r = .abandoned := by
  unfold abortState at h
  split at h
  case h_1 | h_2 | h_3 => exact abortThreading_result h
  case h_4 =>
    split at h
    · exact Or.inl (Option.some.inj h).symm
    · exact Or.inr (Option.some.inj h).symm
  case h_5 => exact Or.inl (Option.some.inj h).symm
  case h_6 | h_7 | h_8 | h_9 => exact Or.inr (Option.some.inj h).symm
  all_goals cases h

theorem abortUpdate_none {s : State} (h : abortState s = none) : abortUpdate s = s := by
  unfold abortUpdate
  rw [h]
  split
  · next hr => cases hr
  · rfl

theorem abortUpdate_joins {s : State} {p : Nat} {r : RecState} (hp : s.ps.current = some p) (h : abortState s = some r)
    (hj : s.prs.canJoin p = true) : abortUpdate s = noted (updateTo r p s) s := by
  unfold abortUpdate
  rw [hp, h]
  exact (if_pos hj).trans (noteUpdate_queueUpdate _ s)

theorem abortUpdate_full {s : State} {p : Nat} (hp : s.ps.current = some p) (hj : s.prs.canJoin p = false) :
    abortUpdate s = s := by
  unfold abortUpdate
  rw [hp]
  split
  · next hq _ =>
    cases hq
    exact if_neg (by simp [hj])
  · rfl

/-- What the update of an ABORT leaves as it was: it counts no release (R122). -/
theorem abortUpdate_kept (s : State) :
    (abortUpdate s).tu = s.tu ∧ (abortUpdate s).cfg = s.cfg ∧ (abortUpdate s).js = s.js
      ∧ (abortUpdate s).ps.ownCount = s.ps.ownCount ∧ (abortUpdate s).ps.lastRelease = s.ps.lastRelease := by
  unfold abortUpdate
  split
  · next p r _ hr =>
    split
    · rw [noteUpdate_queueUpdate]
      rcases abortState_result hr with rfl | rfl <;> exact ⟨rfl, rfl, rfl, rfl, rfl⟩
    · exact ⟨rfl, rfl, rfl, rfl, rfl⟩
  · exact ⟨rfl, rfl, rfl, rfl, rfl⟩

/-! ## The rest -/

/-- A pass is ended as the statements give it (R38, R71, R77). -/
theorem dropPass_eq (s : State) : dropPass s = passEnded s := by
  unfold dropPass
  dsimp only
  rw [completeAsked_at (s := s) (t := s) rfl rfl rfl rfl]
  rfl

/-- A state with the pass dropped where one is loaded. -/
def passDropped (s : State) : State := if s.pe.engine = .pass then passEnded s else s

theorem passLoaded_iff (s : State) : passLoaded s = true ↔ s.pe.engine = .pass := decide_eq_true_iff

theorem ite_passLoaded_dropPass (s : State) : (if passLoaded s then dropPass s else s) = passDropped s := by
  simp only [passLoaded_iff, dropPass_eq]
  rfl

/-- Dropping a pass changes the engine, Gap Control and the recovery count alone. -/
theorem passDropped_eq (s : State) :
    passDropped s = { s with pe := (passDropped s).pe, gc := (passDropped s).gc, eg := (passDropped s).eg } := by
  unfold passDropped
  split <;> rfl

theorem abortAll_eq (s : State) :
    abortAll s = { s with
      js := { s.js with arm := .idle }
      pe := engineOff (passDropped s).pe
      gc := gapOff (passDropped s).gc
      eg := (passDropped s).eg
      tu := lineless s.tu
      ps := { s.ps with
        job := .disarmed, phase := .none, reason := .none, current := none, attempts := none, head := .parked
        activity := .none, held := [], scan := 0, deferred := [], marker := false }
      cli := noLongerLive s.cli
      pva := { s.pva with intent := Intent.empty } } := by
  unfold abortAll
  dsimp only
  rw [ite_passLoaded_dropPass, passDropped_eq]
  rfl

/-! ## The order -/

theorem abortUpdate_marked (s : State) :
    (abortUpdate (marked .order s)).prs = (abortUpdate s).prs
      ∧ (abortUpdate (marked .order s)).jp = { (marked .order s).jp with flags := (abortUpdate s).jp.flags } := by
  have hstate : abortState (marked .order s) = abortState s := rfl
  have hcurrent : (marked .order s).ps.current = s.ps.current := rfl
  cases hr : abortState s with
  | none =>
    rw [abortUpdate_none hr, abortUpdate_none (hstate.trans hr)]
    exact ⟨rfl, rfl⟩
  | some r =>
    cases hp : s.ps.current with
    | none =>
      unfold abortUpdate
      rw [hcurrent, hp]
      exact ⟨rfl, rfl⟩
    | some p =>
      cases hj : s.prs.canJoin p with
      | false =>
        rw [abortUpdate_full hp hj, abortUpdate_full (s := marked .order s) hp hj]
        exact ⟨rfl, rfl⟩
      | true =>
        rw [abortUpdate_joins hp hr hj, abortUpdate_joins (s := marked .order s) hp hr hj]
        exact ⟨rfl, rfl⟩

theorem exec_abort_taken {s : State} (ho : OrderArrives orderAbort s) (hjob : s.ps.job ≠ .disarmed) :
    exec .abort s = .next (recordAnswer .accepted (abortAll (abortUpdate (marked .order s)))) := by
  have hrule : abortRule (marked .order s) = (.accepted, abortAll (abortUpdate (marked .order s))) := by
    have hmarked : (marked .order s).ps.job = s.ps.job := rfl
    unfold abortRule
    rw [hmarked]
    cases h : s.ps.job with
    | disarmed => exact absurd h hjob
    | arming | armed | running | halted | done => rfl
  show execAbort s = _
  rw [execAbort, orderEdge_answered ho hrule]

/-- What an ABORT leaves of the records and the port is what its update left (R111). -/
theorem exec_abort_leaves {s : State} (ho : OrderArrives orderAbort s) (hjob : s.ps.job ≠ .disarmed) :
    ∃ t, exec .abort s = .next t ∧ t.prs = (abortUpdate s).prs
      ∧ t.jp = { portAfter .accepted s.jp with flags := (abortUpdate s).jp.flags }
      ∧ t.ps.activity = .none ∧ t.ps.current = none := by
  obtain ⟨hprs, hjp⟩ := abortUpdate_marked s
  refine ⟨_, exec_abort_taken ho hjob, ?_⟩
  rw [abortAll_eq]
  refine ⟨hprs, ?_, rfl, rfl⟩
  show ({ (abortUpdate (marked .order s)).jp with answer := .accepted, answers := _ } : JobPort) = _
  rw [hjp]
  rfl

end Sys2Proof.Machine

namespace Sys2Proof.Proofs

open Sys2Proof.Machine Sys2Proof.Statements

/-- Settles O22: what an ABORT drops is dropped whatever its update did, and the update counts no release. -/
theorem abortDropsAll : Obligations.AbortDropsAll := by
  intro s ho
  refine ⟨fun hjob => congrArg Host.Outcome.next (orderEdge_answeredOnly ho ?_), fun hjob => ?_⟩
  · unfold abortRule
    rw [show (marked .order s).ps.job = .disarmed from hjob]
  · obtain ⟨htu, hcfg, hjs, hcount, hlast⟩ := abortUpdate_kept (marked .order s)
    have hfailed := congrArg ThreadUnit.failed htu
    have hmem := congrArg JobStore.mem hjs
    refine ⟨_, exec_abort_taken ho hjob, ?_⟩
    rw [abortAll_eq]
    exact ⟨rfl, rfl, rfl, rfl, rfl, rfl, rfl, rfl, rfl, rfl, rfl, rfl, hfailed, rfl, rfl, rfl, rfl, rfl, rfl, rfl, rfl,
      rfl, hlast, hcount, rfl, hcfg, hmem⟩

/-- Settles O23: the state that an ABORT gives the part, by where it stands, and its update where the queue has room. -/
theorem abortQueuesOneUpdate : Obligations.AbortQueuesOneUpdate := by
  intro p s ho hjob hp
  have hleaves := exec_abort_leaves ho (by rcases hjob with h | h <;> rw [h] <;> decide)
  intro leaves none' one on
  have none_of (h : abortState s = none) : none' := by rwa [abortUpdate_none h] at hleaves
  have one_of {r : RecState} (h : abortState s = some r) : one r := by
    refine ⟨fun hj => ?_, fun hj => ?_⟩
    · rwa [abortUpdate_joins hp h hj] at hleaves
    · rwa [abortUpdate_full hp hj] at hleaves
  have pass_of (h : abortState s = if s.pe.passKind = .release then some .held else some .abandoned) :
      (s.pe.passKind = .rough → one .abandoned) ∧ (s.pe.passKind = .release → one .held) :=
    ⟨fun hk => one_of (h.trans (if_neg (by rw [hk]; decide))), fun hk => one_of (h.trans (if_pos hk))⟩
  have on_state {u : Purpose} (h : on u) : abortState s = abortThreading s.pe.passKind u := by
    rcases h with h | h | h <;> rw [abortState, h]
  refine ⟨fun h => pass_of ?_, fun h => one_of ?_, fun h => pass_of (on_state h), fun h => one_of (on_state h),
    fun h => none_of (on_state h), fun h => none_of (on_state h), fun h => one_of (on_state h), fun h => none_of ?_,
    fun u k h => none_of ?_, fun u k h => ⟨fun hk => one_of ?_, fun hk => none_of ?_⟩⟩
  · rw [abortState, h]
  · rw [abortState, h]
  · rcases h with h | h <;> rw [abortState, h]
  · cases k <;> rw [abortState, h]
  · rcases h with h | h <;> rcases hk with rfl | rfl <;> rw [abortState, h]
  · rcases h with h | h <;> rcases hk with rfl | rfl | rfl <;> rw [abortState, h]

end Sys2Proof.Proofs

/-! PROOFS. The load of a rough pass, captures, failures and losses of wire, the end of an unthread, and the rows in
which a waiting update goes on (R34, R94 to R98, R104, R116, R119, R128, R129). -/

namespace Sys2Proof.Machine

open Sys2Proof.Statements

/-! ## The rough pass -/

theorem pointsAtUnfired_firstUnfired (fired : BitVec 256) (e : PartEntry) (n : Nat) :
    PointsAtUnfired fired e n (firstUnfired fired e n) := by
  have hunfired : (fun m => m < e.markCount ∧ (!fired.getLsbD (e.firstMark + m)) = true)
      = fun m => m < e.markCount ∧ fired.getLsbD (e.firstMark + m) = false := by
    funext m
    rw [Bool.not_eq_true']
  refine ⟨fun m hm => hunfired ▸ find?_range_from_eq_some_iff.1 hm, fun hnone m hm => ?_⟩
  have hall := find?_range_from_eq_none_iff.1 hnone m hm
  rwa [Bool.not_eq_true'] at hall

theorem loadRoughPass_eq {s : State} {p : Nat} (hp : s.ps.current = some p) :
    loadRoughPass s = { s with
      pe := { s.pe with
        engine := .pass, passPart := p, passKind := .rough, sub := some .run, remembered := none, awaiting := false
        stepTimer := some s.now, seg := 0, off := 0, markPtr := firstUnfired s.pe.fired (s.js.part p) 0 }
      eg := { primary := (s.js.part p).eprim, recovery := 0 }
      gc := { s.gc with mode := .feeding, halted := false, asked := false, limit := (s.js.part p).fmax, redo := []
                        stepTimer := none, stallTimer := none }
      ps := { s.ps with head := .cutting, activity := .passing } } := by
  unfold loadRoughPass
  rw [hp]
  rfl

/-- A loaded rough pass runs, as seen from any state with the same tables, fired flags and instant. -/
theorem roughPassRuns_loadRoughPass {s t : State} {p : Nat} (hp : t.ps.current = some p) (hjs : t.js = s.js)
    (hfired : t.pe.fired = s.pe.fired) (hnow : t.now = s.now) : RoughPassRuns p s (loadRoughPass t) := by
  rw [loadRoughPass_eq hp, hjs, hfired, hnow]
  exact ⟨rfl, rfl, rfl, rfl, rfl, rfl, hfired, pointsAtUnfired_firstUnfired _ _ _, rfl, rfl, rfl, rfl, rfl, rfl, rfl⟩

/-! ## A record wait -/

theorem requestUnthread_runs {s : State} (hjob : s.ps.job = .running) (hstage : s.tu.stage = .threaded) :
    requestUnthread s = { s with
      ps := { s.ps with head := .unthreading, activity := .unthreading }, tu := unthreadingSince s.now s.tu } :=
  (requestUnthread_threaded hstage).trans
    (showHead_of_running (s := setActivity .unthreading { s with tu := unthreadingSince s.now s.tu }) hjob _)

theorem showHead_under_way {s : State} (h : s.ps.job = .running ∨ s.ps.job = .halted) (hd : HeadState) :
    showHead hd s = { s with ps := { s.ps with head := if s.ps.job = .running then hd else s.ps.head } } := by
  rcases h with h | h
  · rw [showHead_of_running h, if_pos h]
  · rw [showHead_of_halted h, if_neg (by rw [h]; decide)]

/-- A record wait whose update has joined, or joins now, goes on (R116, log 7). -/
theorem exec_recordWaitEnd_goes {s : State} {u : PartUpdate} {k : Follow} {joined : Bool}
    (h : s.ps.activity = .recordWait u k joined) (hj : joined = true ∨ s.prs.canJoin u.part = true) :
    exec .recordWaitEnd s = .next (goOn k (if joined then s else noted u s)) := by
  show execRecordWaitEnd s = _
  rw [execRecordWaitEnd, h]
  cases joined with
  | true => rfl
  | false =>
    have hcan : s.prs.canJoin u.part = true := hj.resolve_left (by decide)
    exact (if_pos hcan).trans (by rw [noteUpdate_queueUpdate]; rfl)

theorem exec_recordWaitEnd_waits {s : State} {u : PartUpdate} {k : Follow}
    (h : s.ps.activity = .recordWait u k false) (hj : s.prs.canJoin u.part = false) :
    exec .recordWaitEnd s = .next s := by
  show execRecordWaitEnd s = _
  rw [execRecordWaitEnd, h]
  exact if_neg (by simp [hj])

theorem goOn_nextPart (s : State) : goOn .nextPart s = partBoundary s := ite_self _

theorem goOn_unthreadRunning {s : State} (h : s.ps.job = .running ∨ s.ps.job = .halted) :
    goOn .unthreadRunning s = { s with
      ps := { s.ps with head := if s.ps.job = .running then .unthreading else s.ps.head, activity := .unthreading } } :=
  (ite_self _).trans (showHead_under_way (s := setActivity .unthreading s) h _)

/-! ## Captures -/

/-- The state of a capture before the Part Sequencer acts on it (R33, R94). -/
def captured (s : State) : State :=
  { s with
    tu := { s.tu with stage := .threaded, mode := .none, timer := none }
    pe := captureEngine s.tu.mode s.pe
    gc := { approach s.cfg s.gc with log := [] } }

theorem capture_threading {s : State} {u : Purpose} (h : s.ps.activity = .threading u) :
    capture s = afterCapture u (captured s) := by
  have hcaptured : (captured s).ps.activity = .threading u := h
  show (match (captured s).ps.activity with | .threading p => afterCapture p (captured s) | _ => captured s) = _
  rw [hcaptured]

theorem exec_wireOkRise_capture {s : State} (h : s.tu.stage = .capture) :
    exec .wireOkRise s = .next (capture { s with tu := { s.tu with wireOk := true } }) := by
  show execWireOkRise s = _
  exact if_pos h

theorem afterCapture_startHole {u : Purpose} {s : State} {p : Nat} (hu : u = .startHole ∨ u = .startHoleAgain)
    (hp : s.ps.current = some p) : afterCapture u s = settle (updateTo .cutting p s) .loadRough .cutting s := by
  unfold afterCapture
  rw [hp]
  rcases hu with rfl | rfl <;> rfl

/-! ## Unthreads -/

theorem exec_unthreadTimerExpiry_ends {s : State} (h : s.tu.stage = .unthread) :
    exec .unthreadTimerExpiry s = .next (afterUnthread { s with tu := lineless s.tu }) := by
  show execUnthreadTimerExpiry s = _
  exact if_pos h

theorem afterUnthread_unthreading {s : State} (h : s.ps.activity = .unthreading) :
    afterUnthread s = partBoundary s := by
  rw [afterUnthread, h]

theorem afterUnthread_beside {s : State} {u : PartUpdate} {joined : Bool}
    (h : s.ps.activity = .recordWait u .unthreadRunning joined) :
    afterUnthread s = setActivity (.recordWait u .nextPart joined) s := by
  rw [afterUnthread, h]

end Sys2Proof.Machine

namespace Sys2Proof.Proofs

open Sys2Proof.Machine Sys2Proof.Statements

/-- Settles O54: with the update joined the row is what follows it, whatever joined it. -/
theorem recordWaitEnds : Obligations.RecordWaitEnds := by
  intro u k joined s hact b
  refine ⟨fun hjoined hfull => exec_recordWaitEnd_waits (hjoined ▸ hact) hfull, fun hj => ?_⟩
  rw [exec_recordWaitEnd_goes hact hj]
  have hjob : b.ps.job = s.ps.job := by cases joined <;> rfl
  have hhead : b.ps.head = s.ps.head := by cases joined <;> rfl
  have hcurrent : b.ps.current = s.ps.current := by cases joined <;> rfl
  have htu : b.tu = s.tu := by cases joined <;> rfl
  have hjs : b.js = s.js := by cases joined <;> rfl
  have hpe : b.pe = s.pe := by cases joined <;> rfl
  have hnow : b.now = s.now := by cases joined <;> rfl
  refine ⟨fun hrun hk => ?_, fun p hrun hk hp => ?_, fun hrun hk => ?_, fun hrun hk hstage => ?_,
    fun hrun hk hstage => ?_,
    fun hway hk => ?_, fun hway hk => ?_⟩
  · exact congrArg Host.Outcome.next (goOn_halted (hjob.trans hrun) hk)
  · subst hk
    have hp' : b.ps.current = some p := hcurrent.trans hp
    refine ⟨_, congrArg Host.Outcome.next (goOn_running (hjob.trans hrun) _),
      roughPassRuns_loadRoughPass hp' hjs (congrArg PathEngine.fired hpe) hnow, ?_⟩
    show (loadRoughPass b).prs = b.prs
    rw [loadRoughPass_eq hp']
  · subst hk
    refine congrArg Host.Outcome.next ((goOn_running (hjob.trans hrun) _).trans ?_)
    show enterWaitThread .startHoleAgain b = _
    rw [enterWaitThread_eq, hnow]
  · subst hk
    refine congrArg Host.Outcome.next ((goOn_running (hjob.trans hrun) _).trans ?_)
    show requestUnthread b = _
    rw [requestUnthread_runs (hjob.trans hrun) ((congrArg ThreadUnit.stage htu).trans hstage), htu, hnow]
  · subst hk
    have hgoes : goOn .unthread b = partBoundary b := (goOn_running (hjob.trans hrun) _).trans
      (requestUnthread_idle ((congrArg ThreadUnit.stage htu).trans hstage))
    exact (congrArg Host.Outcome.next hgoes) ▸ goesOn_partBoundary b
  · subst hk
    exact (congrArg Host.Outcome.next (goOn_nextPart b)) ▸ goesOn_partBoundary b
  · subst hk
    show Host.Outcome.next (goOn .unthreadRunning b) = _
    rw [goOn_unthreadRunning (hjob ▸ hway), hjob, hhead]

/-- Settles O44: the walk after an unthread is a part boundary. -/
theorem unthreadEnds : Obligations.UnthreadEnds := by
  intro s hstage
  refine ⟨fun hact => ?_, fun u joined hact => ?_⟩
  · rw [exec_unthreadTimerExpiry_ends hstage, afterUnthread_unthreading (s := { s with tu := lineless s.tu }) hact]
    exact goesOn_partBoundary _
  · rw [exec_unthreadTimerExpiry_ends hstage, afterUnthread_beside (s := { s with tu := lineless s.tu }) hact]
    rfl

end Sys2Proof.Proofs

/-! PROOFS. The rows of a threading: its stages, the attempts that fail, the failure and the capture it ends in, and
the loss of wire (R85 to R98, R128, R129). -/

namespace Sys2Proof.Machine

open Sys2Proof.Statements

/-! ## What the walk never does -/

/-- The head has not moved and no flag has been cleared. -/
structure InPlace (s t : State) : Prop where
  posX : t.pe.posX = s.pe.posX
  posY : t.pe.posY = s.pe.posY
  flags : ∀ b, s.jp.flags.getLsbD b = true → t.jp.flags.getLsbD b = true

theorem InPlace.refl (s : State) : InPlace s s := ⟨rfl, rfl, fun _ => id⟩

theorem InPlace.trans {s t u : State} (h : InPlace s t) (h' : InPlace t u) : InPlace s u :=
  ⟨h'.posX.trans h.posX, h'.posY.trans h.posY, fun b hb => h'.flags b (h.flags b hb)⟩

theorem InPlace.ite {s t u : State} {p : Prop} [Decidable p] (ht : InPlace s t) (hu : InPlace s u) :
    InPlace s (if p then t else u) := by
  split
  · exact ht
  · exact hu

theorem getLsbD_withFlag_of_set {flags : Half} {c : Nat} (h : flags.getLsbD c = true) (b : Nat) :
    (withFlag flags b).getLsbD c = true := by
  rw [getLsbD_withFlag flags (BitVec.lt_of_getLsbD h), h, Bool.true_or]

theorem inPlace_setPs (s : State) (b : Sequencer) : InPlace s (s.setPs b) := ⟨rfl, rfl, fun _ => id⟩

theorem inPlace_noted (u : PartUpdate) (s : State) : InPlace s (noted u s) := by
  refine ⟨rfl, rfl, fun b hb => ?_⟩
  show (withResult u.state s.jp.flags).getLsbD b = true
  unfold withResult
  split
  · exact getLsbD_withFlag_of_set (getLsbD_withFlag_of_set hb _) _
  · split
    · exact getLsbD_withFlag_of_set hb _
    · exact hb

theorem inPlace_sentTo (target : Int × Int) (p : Purpose) (s : State) : InPlace s (sentTo target p s) :=
  InPlace.ite ⟨rfl, rfl, fun _ => id⟩ ⟨rfl, rfl, fun _ => id⟩

theorem inPlace_completePhase (s : State) : InPlace s (completePhase s) :=
  InPlace.ite (inPlace_setPs s _) ⟨rfl, rfl, fun _ hb => getLsbD_withFlag_of_set hb _⟩

theorem inPlace_chooseRelease {s s' : State} {p : Nat} {a : Option Nat} (h : chooseRelease s = some (p, a, s')) :
    InPlace s s' := by
  unfold chooseRelease at h
  split at h
  · cases h
    exact inPlace_setPs s _
  · split at h
    · cases h
    · cases h
      exact inPlace_setPs s _

theorem inPlace_walk (n : Nat) (s : State) : InPlace s (walk n s) := by
  induction n generalizing s with
  | zero => exact InPlace.refl s
  | succ n ih =>
    unfold walk
    split
    · exact InPlace.refl s
    · split
      · exact (inPlace_setPs s _).trans (inPlace_sentTo _ _ _)
      · exact (inPlace_setPs s _).trans (ih _)
    · split
      · exact inPlace_completePhase s
      · next p a t hchoose =>
        refine (inPlace_chooseRelease hchoose).trans (InPlace.ite ?_ ?_)
        · exact (inPlace_setPs t _).trans (inPlace_sentTo _ _ _)
        · refine (inPlace_setPs t { t.ps with takenZone := (t.js.part p).zone }).trans (InPlace.ite ?_ ?_)
          · simp only [noteUpdate_queueUpdate]
            exact (inPlace_noted _ _).trans (InPlace.ite (inPlace_setPs _ _) (ih _))
          · exact inPlace_setPs _ _

theorem inPlace_partBoundary (s : State) : InPlace s (partBoundary s) :=
  InPlace.ite (inPlace_setPs s _) (InPlace.ite (inPlace_walk _ s) (inPlace_setPs s _))

/-! ## The stages -/

theorem enterJet_waits {s : State} (h : s.tu.jetOk = false) :
    enterJet s = { s with tu := inStage .jet s.now s.tu } := if_neg (by simp [h])

theorem enterJet_passes {s : State} (h : s.tu.jetOk = true) : enterJet s = enterFeed s := if_pos h

theorem enterFeed_waits {s : State} (h : s.tu.pickup = false) :
    enterFeed s = { s with tu := inStage .feed s.now s.tu } := if_neg (by simp [h])

theorem enterFeed_passes {s : State} (h : s.tu.pickup = true) : enterFeed s = enterCapture s := if_pos h

theorem enterCapture_waits {s : State} (h : s.tu.wireOk = false) :
    enterCapture s = { s with tu := inStage .capture s.now s.tu } := if_neg (by simp [h])

theorem enterCapture_passes {s : State} (h : s.tu.wireOk = true) : enterCapture s = capture s := if_pos h

/-- The stage that a capture is reached from is forgotten by it. -/
theorem capture_setStage (st : Stage) (s : State) :
    capture { s with tu := { s.tu with stage := st } } = capture s := rfl

theorem exec_annealTimerExpiry {s : State} (h : s.tu.stage = .anneal) (pickup : Bool) :
    exec (.annealTimerExpiry pickup) s = .next (enterJet { s with tu := { s.tu with pickup := pickup } }) := if_pos h

theorem exec_jetOkRise {s : State} (h : s.tu.stage = .jet) (pickup : Bool) :
    exec (.jetOkRise pickup) s =
      .next (enterFeed { s with tu := { s.tu with jetOk := true, pickup := pickup } }) := if_pos h

theorem exec_pickupRise {s : State} (h : s.tu.stage = .feed) :
    exec .pickupRise s = .next (enterCapture { s with tu := { s.tu with pickup := true } }) := if_pos h

/-- A capture with every input asserted is the capture of WIRE_OK_RISE, whatever stage it is reached from. -/
theorem next_capture_eq_wireOkRise {s : State} (hjet : s.tu.jetOk = true) (hpickup : s.tu.pickup = true)
    (hwire : s.tu.wireOk = true) :
    (.next (capture s) : Result) =
      exec .wireOkRise { s with tu := { s.tu with stage := .capture, jetOk := true, pickup := true } } := by
  have htu : ({ s.tu with jetOk := true, pickup := true, wireOk := true } : ThreadUnit) = s.tu := by
    generalize s.tu = tu at hjet hpickup hwire
    cases tu
    simp_all only
  rw [exec_wireOkRise_capture rfl]
  refine congrArg Host.Outcome.next (Eq.trans ?_
    (capture_setStage .capture { s with tu := { s.tu with jetOk := true, pickup := true, wireOk := true } }).symm)
  rw [htu]

/-! ## Attempts -/

theorem failAttempt_eq (s : State) : failAttempt s = { s with tu := failedAttempt s.now s.tu } := rfl

end Sys2Proof.Machine

namespace Sys2Proof.Proofs

open Sys2Proof.Machine Sys2Proof.Statements

/-- Settles O39: each stage ends in the next that an input does not end at once. -/
theorem stagesFollow : Obligations.StagesFollow := by
  intro pickup s captured
  refine ⟨fun h => if_pos h, fun h hjet => ?_, fun h hjet hp => ?_, fun h hjet hp hwire => ?_,
    fun h hjet hp hwire => ?_,
    fun h hp => ?_, fun h hp hwire => ?_, fun h hp hwire => ?_, fun h hwire => ?_, fun h hjet hwire => ?_⟩
  · rw [exec_annealTimerExpiry h, enterJet_waits]
    exacts [rfl, hjet]
  · rw [exec_annealTimerExpiry h, enterJet_passes, enterFeed_waits]
    exacts [rfl, hp, hjet]
  · rw [exec_annealTimerExpiry h, enterJet_passes, enterFeed_passes, enterCapture_waits]
    exacts [rfl, hwire, hp, hjet]
  · rw [exec_annealTimerExpiry h, enterJet_passes, enterFeed_passes, enterCapture_passes]
    exacts [next_capture_eq_wireOkRise hjet hp hwire, hwire, hp, hjet]
  · rw [exec_jetOkRise h, enterFeed_waits, hp]
    exacts [rfl, hp]
  · rw [exec_jetOkRise h, enterFeed_passes, enterCapture_waits, hp]
    exacts [rfl, hwire, hp]
  · rw [exec_jetOkRise h, enterFeed_passes, enterCapture_passes]
    exacts [next_capture_eq_wireOkRise rfl hp hwire, hwire, hp]
  · rw [exec_pickupRise h, enterCapture_waits]
    exacts [rfl, hwire]
  · rw [exec_pickupRise h, enterCapture_passes]
    exacts [next_capture_eq_wireOkRise hjet rfl hwire, hwire]

/-- Settles O40. -/
theorem attemptsFail : Obligations.AttemptsFail := by
  intro s
  refine ⟨fun h => if_pos h, fun h => if_pos h, fun h => if_pos h, fun h => if_pos h, fun hfeed hcapture => ?_⟩
  exact if_neg (not_or.2 ⟨hfeed, hcapture⟩)

end Sys2Proof.Proofs

/-! PROOFS. How a threading ends: the failure, the capture, and the loss of the wire that it brought (R33, R94, R96,
R98, R128, R129). -/

namespace Sys2Proof.Machine

open Sys2Proof.Statements

/-! ## Captures -/

theorem captureEngine_startHole (pe : PathEngine) :
    captureEngine .startHole pe = { pe with count := 0, seg := 0, off := 0 } := rfl

theorem captureEngine_kerf (pe : PathEngine) : captureEngine .kerf pe = { pe with count := 0 } := rfl

theorem afterCapture_hold {u : Purpose} (hu : u = .releaseKerf ∨ u = .rethreadHold) (s : State) :
    afterCapture u s = enterWaitRelease s := by
  unfold afterCapture
  rcases hu with rfl | rfl <;> cases s.ps.current <;> rfl

theorem afterCapture_rethreadPass (s : State) : afterCapture .rethreadPass s = restartPass s := by
  unfold afterCapture
  cases s.ps.current <;> rfl

/-- WIRE_OK taken in CAPTURE, for the threading's purpose (R93, R94). -/
theorem exec_wireOkRise_threading {s : State} {u : Purpose} (hstage : s.tu.stage = .capture)
    (hact : s.ps.activity = .threading u) :
    exec .wireOkRise s = .next (afterCapture u { s with
      tu := { s.tu with stage := .threaded, mode := .none, timer := none, wireOk := true }
      pe := captureEngine s.tu.mode s.pe
      gc := { approach s.cfg s.gc with log := [] } }) := by
  rw [exec_wireOkRise_capture hstage, capture_threading (u := u)]
  · rfl
  · exact hact

/-- The state of a START_HOLE capture before its update (R33, R94). -/
def holeCaptured (s : State) : State :=
  { s with
    tu := { s.tu with stage := .threaded, mode := .none, timer := none, wireOk := true }
    pe := { s.pe with count := 0, seg := 0, off := 0 }
    gc := { approach s.cfg s.gc with log := [] } }

/-- A capture at the start hole queues CUTTING, and the rough pass follows it (R119). -/
theorem exec_wireOkRise_startHole {s : State} {p : Nat} (hstage : s.tu.stage = .capture)
    (hmode : s.tu.mode = .startHole)
    (hact : s.ps.activity = .threading .startHole ∨ s.ps.activity = .threading .startHoleAgain)
    (hp : s.ps.current = some p) :
    exec .wireOkRise s = .next (settle (updateTo .cutting p s) .loadRough .cutting (holeCaptured s)) := by
  obtain ⟨u, hu, hhole⟩ : ∃ u, s.ps.activity = .threading u ∧ (u = .startHole ∨ u = .startHoleAgain) :=
    hact.elim (fun h => ⟨_, h, Or.inl rfl⟩) fun h => ⟨_, h, Or.inr rfl⟩
  rw [exec_wireOkRise_threading hstage hu, hmode, captureEngine_startHole]
  exact congrArg Host.Outcome.next (afterCapture_startHole (s := holeCaptured s) hhole hp)

/-! ## The loss of the wire -/

theorem exec_wireOkFall_threaded {s : State} (h : s.tu.stage = .threaded) :
    exec .wireOkFall s = .next (afterLoss { s with tu := { lineless s.tu with wireOk := false } }) := if_pos h

/-- What a wire break leaves of a pass, as seen from any state with the same pass (R36, R70, R77). -/
theorem breakPass_at {s t : State} (hpe : t.pe = s.pe) (hgc : t.gc = s.gc) (hjs : t.js = s.js) (hnow : t.now = s.now) :
    breakPass t = { t with
      pe := { (completeAsked s).pe with sub := some .stopped, remembered := none, awaiting := true, stepTimer := none }
      gc := { (completeAsked s).gc with
        mode := .wireWait, halted := false, asked := false, redo := [], stepTimer := none, stallTimer := none }
      eg := { t.eg with recovery := 0 } } := by
  unfold breakPass
  dsimp only
  rw [completeAsked_at hpe hgc hjs hnow]
  rfl

theorem askRethread_running {s : State} (h : s.ps.job = .running) (u : Purpose) :
    askRethread u s = enterWaitThread u s := if_pos (decide_eq_true h)

theorem askRethread_not_running {s : State} (h : s.ps.job ≠ .running) (u : Purpose) :
    askRethread u s = setActivity (.waitThread u) s := if_neg (by simpa [jobRunning] using h)

theorem afterLoss_passing {s : State} (h : s.ps.activity = .passing) :
    afterLoss s = askRethread .rethreadPass (raiseFlag flagWireBreak (breakPass s)) := by
  rw [afterLoss, h]

theorem afterLoss_waitRelease {s : State} (h : s.ps.activity = .waitRelease) :
    afterLoss s = askRethread .rethreadHold (endIntent (raiseFlag flagWireBreak s)) := by
  rw [afterLoss, h]

theorem afterLoss_loadRough_waiting {s : State} {u : PartUpdate} {joined : Bool}
    (h : s.ps.activity = .recordWait u .loadRough joined) :
    afterLoss s = setActivity (.recordWait u .threadAgain joined) s := by
  rw [afterLoss, h]

theorem afterLoss_loadRough_joined {s : State} (h : s.ps.activity = .recordJoined .loadRough) :
    afterLoss s = setActivity (.waitThread .startHoleAgain) s := by
  rw [afterLoss, h]

/-- With the result queued or waiting, the Part Sequencer does nothing at a loss (R128). -/
theorem afterLoss_unthread {s : State}
    (h : (∃ u joined, s.ps.activity = .recordWait u .unthread joined) ∨ s.ps.activity = .recordJoined .unthread) :
    afterLoss s = s := by
  rcases h with ⟨u, joined, h⟩ | h <;> rw [afterLoss, h]

/-! ## The failure -/

/-- An ended pass, as seen from any state with the same pass and recovery count (R38, R71, R77). -/
theorem passEnded_at {s t : State} (hpe : t.pe = s.pe) (hgc : t.gc = s.gc) (heg : t.eg = s.eg) (hjs : t.js = s.js)
    (hnow : t.now = s.now) :
    passEnded t = { t with pe := (passEnded s).pe, gc := (passEnded s).gc, eg := (passEnded s).eg } := by
  unfold passEnded
  dsimp only
  rw [completeAsked_at hpe hgc hjs hnow, heg]

/-- A failed threading's state before its update: the pass ended where one was to be rethreaded (R96, R129). -/
def threadingFailed (u : Purpose) (s : State) : State :=
  { (if u = .rethreadPass then passEnded s else s) with
    tu := lineless s.tu, jp := flagged flagThreadFail s.jp }

theorem threadingFailed_frame (u : Purpose) (s : State) :
    (threadingFailed u s).ps = s.ps ∧ (threadingFailed u s).js = s.js ∧ (threadingFailed u s).prs = s.prs := by
  unfold threadingFailed
  split <;> exact ⟨rfl, rfl, rfl⟩

theorem ite_dropPass_eq_threadingFailed (u : Purpose) (s : State) :
    (if u = .rethreadPass then dropPass (raiseFlag flagThreadFail (s.setTu (unitIdle s.tu)))
      else raiseFlag flagThreadFail (s.setTu (unitIdle s.tu))) = threadingFailed u s := by
  unfold threadingFailed
  split
  · exact (dropPass_eq _).trans (passEnded_at (t := raiseFlag flagThreadFail (s.setTu (unitIdle s.tu))) (s := s)
      rfl rfl rfl rfl rfl)
  · rfl

/-- WITHDRAW at the attempt limit: the threading has failed, and the part takes its state (R96, R118, R125, R129). -/
theorem exec_withdrawEnd_fails {s : State} {p : Nat} {u : Purpose} (hstage : s.tu.stage = .withdraw)
    (hlimit : attemptLimit s ≤ s.tu.failed) (hact : s.ps.activity = .threading u) (hp : s.ps.current = some p) :
    exec .withdrawEnd s = .next (settle (updateTo (failureState u s.pe.passKind) p s) .nextPart .idle
      (threadingFailed u s)) := by
  obtain ⟨hps, hjs, -⟩ := threadingFailed_frame u s
  have hexec : exec .withdrawEnd s = .next (failThreading s) :=
    (if_pos hstage).trans (congrArg Host.Outcome.next (if_neg (Nat.not_lt.2 hlimit)))
  have hact' : (raiseFlag flagThreadFail (s.setTu (unitIdle s.tu))).ps.activity = .threading u := hact
  have hp' : (threadingFailed u s).ps.current = some p := (congrArg Sequencer.current hps).trans hp
  rw [hexec, failThreading, hact']
  dsimp only
  rw [afterFailure, ite_dropPass_eq_threadingFailed, hp']
  show Host.Outcome.next (settle (updateTo _ p (threadingFailed u s)) _ _ _) = _
  rw [updateTo, updateTo, hjs]
  rfl

end Sys2Proof.Machine

namespace Sys2Proof.Proofs

open Sys2Proof.Machine Sys2Proof.Statements

/-- Settles O41: the failure settles the part, and what follows a settled part is a part boundary. -/
theorem withdrawEnds : Obligations.WithdrawEnds := by
  intro s hstage limit
  refine ⟨fun hlimit => (if_pos hstage).trans (congrArg Host.Outcome.next (if_pos hlimit)),
    fun p hlimit hact hp hjoin => ?_, ?_⟩
  · have hexec := exec_withdrawEnd_fails hstage hlimit hact hp
    rw [failureState, settle_joins (u := updateTo .abandoned p s) (s := threadingFailed .startHole s) hjoin] at hexec
    have hstands := inPlace_partBoundary (noted (updateTo .abandoned p s) (threadingFailed .startHole s))
    have hfail : (flagged flagThreadFail s.jp).flags.getLsbD flagThreadFail = true :=
      getLsbD_withFlag_self _ (by decide)
    obtain ⟨-, -, -, -, -, hgc, -, htu, -⟩ :=
      partBoundary_frame (noted (updateTo .abandoned p s) (threadingFailed .startHole s))
    exact ⟨_, hexec, htu, hstands.flags _ (getLsbD_withFlag_of_set hfail _),
      hstands.flags _ (getLsbD_withFlag_self _ (by decide)), hgc, hstands.posX, hstands.posY⟩
  · intro p u hlimit hact hp w fails
    have hfails {r : RecState} (hr : failureState u s.pe.passKind = r) : fails r := by
      obtain ⟨hps, -, hprs⟩ := threadingFailed_frame u s
      have hexec := hr ▸ exec_withdrawEnd_fails hstage hlimit hact hp
      refine ⟨fun hjoin => ?_, fun hfull hjob => ?_⟩
      · rw [settle_joins (hprs ▸ hjoin)] at hexec
        exact hexec ▸ goesOn_partBoundary _
      · rw [settle_waits (hprs ▸ hfull), showHead_of_running (hps ▸ hjob), hps] at hexec
        exact hexec
    refine ⟨fun hu => hfails ?_, fun hu => hfails ?_⟩
    · rcases hu with rfl | rfl | ⟨rfl, hk⟩
      · rfl
      · rfl
      · exact if_pos hk
    · rcases hu with rfl | rfl | ⟨rfl, hk⟩
      · rfl
      · rfl
      · exact if_neg (by rw [hk]; decide)

/-- Settles O42. -/
theorem captures : Obligations.Captures := by
  refine ⟨fun p s hstage hmode hact hp hjoin => ?_, fun p s hstage hmode hact hp hfull hjob => ?_,
    fun s hstage hmode hact => ?_, fun s hstage hmode hact => ?_⟩
  · have hload := loadRoughPass_eq (s := noted (updateTo .cutting p s) (holeCaptured s)) hp
    refine ⟨_, (exec_wireOkRise_startHole hstage hmode hact hp).trans
      (congrArg Host.Outcome.next (settle_joins (u := updateTo .cutting p s) (s := holeCaptured s) hjoin _ _)),
      congrArg State.tu hload,
      congrArg State.prs hload, roughPassRuns_loadRoughPass hp rfl rfl rfl, ?_⟩
    rw [followUp, hload]
    exact ⟨rfl, rfl, rfl, rfl, rfl, rfl, rfl⟩
  · rw [exec_wireOkRise_startHole hstage hmode hact hp,
      settle_waits (u := updateTo .cutting p s) (s := holeCaptured s) hfull,
      showHead_of_running (s := holeCaptured s) hjob]
    rfl
  · rcases hact with hact | hact <;>
      rw [exec_wireOkRise_threading hstage hact, afterCapture_hold (by decide), hmode] <;> rfl
  · rw [exec_wireOkRise_threading hstage hact, afterCapture_rethreadPass, hmode]
    rfl

/-- Settles O43. -/
theorem wireLost : Obligations.WireLost := by
  refine ⟨?_, fun s hstage => if_neg hstage, fun u s hjob => ⟨fun hact => ?_, fun p hact hidle hm hphase hfirst => ?_⟩⟩
  · intro s hstage tu
    rw [exec_wireOkFall_threaded hstage]
    refine ⟨fun hact => ?_, fun hact hjob => ?_, fun hact hjob => ?_, fun u joined hact => ?_, fun hact => ?_,
      fun hact => ?_⟩
    · rw [afterLoss_passing (s := { s with tu := tu }) hact,
        breakPass_at (t := { s with tu := tu }) (s := s) rfl rfl rfl rfl]
      refine ⟨fun hjob => ?_, fun hjob => ?_⟩
      · rw [askRethread_running]
        exacts [rfl, hjob]
      · rw [askRethread_not_running]
        exacts [rfl, hjob]
    · rw [afterLoss_waitRelease (s := { s with tu := tu }) hact, askRethread_running]
      exacts [rfl, hjob]
    · rw [afterLoss_waitRelease (s := { s with tu := tu }) hact, askRethread_not_running]
      exacts [rfl, hjob]
    · exact congrArg Host.Outcome.next (afterLoss_loadRough_waiting (s := { s with tu := tu }) hact)
    · exact congrArg Host.Outcome.next (afterLoss_loadRough_joined (s := { s with tu := tu }) hact)
    · exact congrArg Host.Outcome.next (afterLoss_unthread (s := { s with tu := tu }) hact)
  · rw [exec_recordWaitEnd_goes hact (Or.inl rfl), goOn_running (by exact hjob)]
    rfl
  · have hexec : exec .recordWaitEnd s = .next (partBoundary s) := by
      rw [exec_recordWaitEnd_goes hact (Or.inl rfl), goOn_running (by exact hjob)]
      exact congrArg Host.Outcome.next (requestUnthread_idle hidle)
    rw [hexec, partBoundary_walks hm hjob]
    exact (walksOn_walk s).1 p hphase hfirst

end Sys2Proof.Proofs

/-! PROOFS. The RESUME order (R68, R69, R110). -/

namespace Sys2Proof.Machine

open Sys2Proof.Statements

/-! ## The end of an episode -/

theorem replayOrEnd_replays {s : State} (h : s.gc.redo ≠ []) :
    replayOrEnd s = { s with gc := { s.gc with
      mode := .replaying, asked := false, stepTimer := some s.now, stallTimer := none } } := if_neg h

theorem replayOrEnd_ends {s : State} (h : s.gc.redo = []) :
    replayOrEnd s = { s with
      pe := { s.pe with sub := some .run }
      gc := { s.gc with mode := .feeding, asked := false, stepTimer := none, stallTimer := none }
      eg := { s.eg with recovery := s.cfg.recoverySteps } } := if_pos h

theorem endStall_running {s : State} (h : s.ps.job = .running) :
    endStall s = replayOrEnd { s with ps := { s.ps with head := passHead s.pe.passKind } } := by
  rw [endStall, showHead_of_running h]

/-! ## A pass resumed -/

/-- A pass taken up where the halt stopped it, whatever Gap Control was doing (R36, R69). -/
def passResumed (s : State) : State :=
  { s with
    ps := { s.ps with head := passHead s.pe.passKind }
    pe := { s.pe with sub := some (s.pe.remembered.getD .run), remembered := none, stepTimer := some s.now }
    gc := { approach s.cfg s.gc with halted := false, stepTimer := none } }

theorem resumePass_feeding {s : State} (hjob : s.ps.job = .running) (hmode : s.gc.mode = .feeding) :
    resumePass s = passResumed s := by
  unfold resumePass
  rw [hmode]
  dsimp only
  rw [showHead_of_running]
  exacts [rfl, hjob]

theorem resumePass_replaying {s : State} (hjob : s.ps.job = .running) (hmode : s.gc.mode = .replaying) :
    resumePass s = { passResumed s with gc := { (passResumed s).gc with stepTimer := some s.now } } := by
  unfold resumePass
  rw [hmode]
  dsimp only
  rw [showHead_of_running]
  exacts [rfl, hjob]

theorem resumePass_episode {s : State} (hjob : s.ps.job = .running)
    (hmode : s.gc.mode = .retracting ∨ s.gc.mode = .stalledTiming ∨ s.gc.mode = .stalledStuck) :
    resumePass s = replayOrEnd (passResumed s) := by
  unfold resumePass
  have hshow {t : State} (ht : t.ps.job = .running) :
      replayOrEnd (showHead (passHead t.pe.passKind) t)
        = replayOrEnd { t with ps := { t.ps with head := passHead t.pe.passKind } } :=
    congrArg replayOrEnd (showHead_of_running ht _)
  rcases hmode with hmode | hmode | hmode <;> rw [hmode] <;> exact hshow hjob

/-! ## The order -/

theorem exec_resume_halted {s : State} (ho : OrderArrives orderResume s) (hjob : s.ps.job = .halted) :
    exec .resume s = .next (recordAnswer .accepted (resumeActivity (marked .order { s with ps := resumed s.ps }))) := by
  have hrule : resumeRule (marked .order s)
      = (.accepted, resumeActivity (marked .order { s with ps := resumed s.ps })) := by
    rw [resumeRule, show (marked .order s).ps.job = .halted from hjob]
    rfl
  show execResume s = _
  rw [execResume, orderEdge_answered ho hrule]

/-- RESUME at an activity, where what it does there is known. -/
theorem exec_resume_at {s : State} {x : Activity} (ho : OrderArrives orderResume s) (hjob : s.ps.job = .halted)
    (hx : s.ps.activity = x) {f : State → State} (hf : ∀ t : State, t.ps.activity = x → resumeActivity t = f t) :
    exec .resume s = .next (recordAnswer .accepted (f (marked .order { s with ps := resumed s.ps }))) := by
  rw [exec_resume_halted ho hjob, hf (marked .order { s with ps := resumed s.ps }) hx]

/-- RESUME where an update has joined makes what follows it (R110, log 7). -/
theorem exec_resume_followUp {s : State} {k : Follow} (ho : OrderArrives orderResume s) (hjob : s.ps.job = .halted)
    (hx : ∃ u, s.ps.activity = .recordJoined k ∨ s.ps.activity = .recordWait u k true) :
    exec .resume s = .next (recordAnswer .accepted (followUp k (marked .order { s with ps := resumed s.ps }))) := by
  obtain ⟨u, hx | hx⟩ := hx
  · exact exec_resume_at ho hjob hx (f := followUp k) fun t ht => by rw [resumeActivity, ht]
  · exact exec_resume_at ho hjob hx (f := followUp k) fun t ht => by rw [resumeActivity, ht]

theorem exec_resume_boundary {s : State} {k : Follow} (ho : OrderArrives orderResume s) (hjob : s.ps.job = .halted)
    (hx : ∃ u, s.ps.activity = .recordJoined k ∨ s.ps.activity = .recordWait u k true)
    (hk : followUp k (marked .order { s with ps := resumed s.ps })
      = partBoundary (marked .order { s with ps := resumed s.ps })) :
    GoesOn (exec .resume s) (answeredOnly .accepted { s with ps := resumed s.ps }) := by
  rw [exec_resume_followUp ho hjob hx, hk, ← partBoundary_recordAnswer, recordAnswer_marked]
  exact goesOn_partBoundary _

theorem resumeRule_stuck {s : State} (hjob : s.ps.job = .running) (hhead : s.ps.head = .stalled)
    (hmode : s.gc.mode = .stalledStuck) :
    resumeRule s = (.accepted, replayOrEnd { s with
      ps := { s.ps with head := passHead s.pe.passKind }, gc := approach s.cfg s.gc }) := by
  rw [resumeRule, hjob]
  exact (if_pos ⟨hhead, hmode⟩).trans
    (congrArg (Prod.mk Answer.accepted) (endStall_running (s := s.setGc (approach s.cfg s.gc)) hjob))

end Sys2Proof.Machine

namespace Sys2Proof.Proofs

open Sys2Proof.Machine Sys2Proof.Statements

/-- Settles O20, by the job's state and by what the halt stopped. -/
theorem resumeTakesUp : Obligations.ResumeTakesUp := by
  refine ⟨⟨rfl, rfl⟩, fun s ho => ⟨fun hjob => ?_, fun hjob hnot => ?_, fun hjob hhead hmode hredo => ?_,
    fun hjob hhead hmode hredo => ?_, ?_⟩⟩
  · refine congrArg Host.Outcome.next (orderEdge_answeredOnly ho ?_)
    have hmarked : (marked .order s).ps.job = s.ps.job := rfl
    rcases hjob with h | h | h | h <;> rw [resumeRule, hmarked, h]
  · refine congrArg Host.Outcome.next (orderEdge_answeredOnly ho ?_)
    rw [resumeRule, show (marked .order s).ps.job = .running from hjob]
    exact if_neg hnot
  · refine congrArg Host.Outcome.next ((orderEdge_answered ho (resumeRule_stuck hjob hhead hmode)).trans ?_)
    rw [replayOrEnd_replays]
    exacts [rfl, hredo]
  · refine congrArg Host.Outcome.next ((orderEdge_answered ho (resumeRule_stuck hjob hhead hmode)).trans ?_)
    rw [replayOrEnd_ends]
    exacts [rfl, hredo]
  · intro hjob r again cleared
    refine ⟨fun p hact => ?_, fun p hact => ?_, fun hact => ?_, fun hact hmode => ?_, fun hact hmode => ?_,
      fun hact hmode => ⟨fun hredo => ?_, fun hredo => ?_⟩, fun hact => ?_, fun hact => ?_, fun u k hact => ?_,
      fun u p hact hp => ?_, fun u hact => ?_, fun u hact hstage => ?_, fun u hact hstage => ?_, fun u hact => ?_,
      fun u hact => ?_⟩
    · rw [exec_resume_at ho hjob hact (f := resumeTraverse) fun t ht => by rw [resumeActivity, ht], resumeTraverse,
        showHead_of_running rfl]
      rfl
    · rw [exec_resume_at ho hjob hact (f := enterWaitThread p) fun t ht => by rw [resumeActivity, ht],
        enterWaitThread_eq, ← hact]
      rfl
    · rw [exec_resume_at ho hjob hact (f := enterWaitRelease) fun t ht => by rw [resumeActivity, ht],
        enterWaitRelease_eq, ← hact]
      rfl
    · rw [exec_resume_at ho hjob hact (f := resumePass) fun t ht => by rw [resumeActivity, ht],
        resumePass_feeding]
      exacts [rfl, rfl, hmode]
    · rw [exec_resume_at ho hjob hact (f := resumePass) fun t ht => by rw [resumeActivity, ht],
        resumePass_replaying]
      exacts [rfl, rfl, hmode]
    · rw [exec_resume_at ho hjob hact (f := resumePass) fun t ht => by rw [resumeActivity, ht],
        resumePass_episode, replayOrEnd_replays]
      exacts [rfl, hredo, rfl, hmode]
    · rw [exec_resume_at ho hjob hact (f := resumePass) fun t ht => by rw [resumeActivity, ht],
        resumePass_episode, replayOrEnd_ends]
      exacts [rfl, hredo, rfl, hmode]
    · rw [exec_resume_at ho hjob hact (f := showHead .unthreading) fun t ht => by rw [resumeActivity, ht],
        showHead_of_running rfl]
      rfl
    · rw [exec_resume_at ho hjob hact (f := walk walkBound) fun t ht => by rw [resumeActivity, ht],
        ← walk_recordAnswer, recordAnswer_marked]
      exact walksOn_walk _
    · rw [exec_resume_at ho hjob hact (f := fun t => showHead t.ps.headBeforeHalt t)
        fun t ht => by rw [resumeActivity, ht], showHead_of_running rfl]
      rfl
    · refine ⟨_, exec_resume_followUp ho hjob ⟨u, hact⟩, ?_, roughPassRuns_loadRoughPass hp rfl rfl rfl⟩
      rw [followUp, loadRoughPass_eq (p := p)]
      exacts [rfl, hp]
    · exact exec_resume_followUp ho hjob ⟨u, hact⟩
    · rw [exec_resume_followUp ho hjob ⟨u, hact⟩, followUp, requestUnthread_runs rfl]
      exacts [rfl, hstage]
    · exact exec_resume_boundary ho hjob ⟨u, hact⟩ (requestUnthread_idle hstage)
    · exact exec_resume_boundary ho hjob ⟨u, hact⟩ rfl
    · rw [exec_resume_followUp ho hjob ⟨u, hact⟩, followUp, showHead_of_running rfl]
      rfl

end Sys2Proof.Proofs

/-! PROOFS. The SKIP_PART order (R130). -/

namespace Sys2Proof.Machine

open Sys2Proof.Statements

/-! ## Where the part stands -/

theorem recordWaiting_iff (a : Activity) : recordWaiting a = true ↔ ∃ u k, a = .recordWait u k false := by
  unfold recordWaiting
  split
  · next u k joined =>
    rw [Bool.not_eq_true']
    exact ⟨fun h => ⟨u, k, h ▸ rfl⟩, fun ⟨_, _, h⟩ => (Activity.recordWait.inj h).2.2⟩
  · next hnot => exact ⟨fun h => absurd h (by decide), fun ⟨u, k, h⟩ => absurd h (hnot u k false)⟩

theorem unsettled_of_Unsettled {a : Activity} (h : Unsettled a) : unsettled a = true := by
  rcases h with ⟨u, rfl | rfl | rfl⟩ | rfl | rfl | rfl | rfl | ⟨u, rfl | rfl⟩ <;> rfl

/-- The part takes HELD: in the release phase, in a release pass, or at a hold point (R130). -/
def SkipHolds (s : State) : Prop :=
  s.ps.phase = .release ∨ s.pe.passKind = .release ∨ s.ps.activity = .waitRelease
    ∨ s.ps.activity = .waitThread .rethreadHold ∨ s.ps.activity = .threading .rethreadHold

theorem atTab_iff (s : State) : atTab s = true ↔ SkipHolds s := by
  unfold atTab SkipHolds
  simp only [Bool.or_eq_true, decide_eq_true_eq, or_assoc]
  refine or_congr_right (or_congr_right ?_)
  split
  · next h => simp [h]
  · next h => simp [h]
  · next h => simp [h]
  · next hrelease hwait hthread =>
    exact iff_of_false (by decide) fun h => h.elim hrelease fun h => h.elim hwait hthread

/-! ## The work ended -/

/-- The head's work on the part ended, and the head that a RESUME in the record wait would show set (R130, log 10). -/
def workEnded (s : State) : State :=
  { s with
    pe := { (passDropped s).pe with engine := .standby, traverse := none, stepTimer := none }
    gc := { (passDropped s).gc with log := [], redo := [] }
    eg := (passDropped s).eg
    tu := if s.tu.stage.threading = true ∨ s.tu.stage = .paused then lineless s.tu else s.tu
    ps := { s.ps with headBeforeHalt :=
      if s.ps.headBeforeHalt = .waitThread ∨ s.ps.headBeforeHalt = .threading ∨ s.ps.headBeforeHalt = .waitRelease
      then (if s.tu.stage = .threaded then .unthreading else .idle) else s.ps.headBeforeHalt } }

/-- The work ended, written over the state with the pass dropped. -/
theorem eq_workEnded (s : State) :
    { passDropped s with
      pe := { (passDropped s).pe with engine := .standby, traverse := none, stepTimer := none }
      gc := { (passDropped s).gc with log := [], redo := [] }
      tu := if s.tu.stage.threading = true ∨ s.tu.stage = .paused then lineless s.tu else s.tu
      ps := { s.ps with headBeforeHalt :=
        if s.ps.headBeforeHalt = .waitThread ∨ s.ps.headBeforeHalt = .threading ∨ s.ps.headBeforeHalt = .waitRelease
        then (if s.tu.stage = .threaded then .unthreading else .idle) else s.ps.headBeforeHalt } } = workEnded s := by
  rw [passDropped_eq]
  rfl

theorem endWork_eq (s : State) : endWork s = { workEnded s with ps := s.ps } := by
  unfold endWork workEnded
  dsimp only
  rw [ite_passLoaded_dropPass]
  by_cases h : s.tu.stage.threading = true ∨ s.tu.stage = .paused
  · rw [if_pos h, passDropped_eq]
    exact if_pos h
  · rw [if_neg h, passDropped_eq]
    exact if_neg h

theorem workEnded_stage (s : State) : (workEnded s).tu.stage = .threaded ↔ s.tu.stage = .threaded := by
  show (if s.tu.stage.threading = true ∨ s.tu.stage = .paused then lineless s.tu else s.tu).stage = .threaded ↔ _
  split
  · next h =>
    refine ⟨fun h' => (by cases h'), fun h' => ?_⟩
    rw [h'] at h
    exact absurd h (by decide)
  · exact Iff.rfl

/-- What an accepted SKIP_PART does, as one settling of the part after its work is ended (R130, log 9). -/
theorem skipPart_eq {s : State} {p : Nat} (hp : s.ps.current = some p) :
    skipPart s = settle (updateTo (if atTab s then .held else .abandoned) p s)
      (if s.tu.stage = .threaded then .unthread else .nextPart) s.ps.head (workEnded s) := by
  have hstage : (endWork s).tu.stage = .threaded ↔ s.tu.stage = .threaded := by
    rw [endWork_eq]
    exact workEnded_stage s
  have hended : (endWork s).setPs { (endWork s).ps with
      headBeforeHalt := quietHead (endWork s).ps.headBeforeHalt
        (if s.tu.stage = .threaded then .unthreading else .idle) } = workEnded s := by
    rw [endWork_eq, quietHead_eq]
    rfl
  unfold skipPart
  rw [hp]
  dsimp only
  simp only [decide_eq_true_eq, hstage, hended]
  rfl

theorem workEnded_marked (s : State) : workEnded (marked .order s) = marked .order (workEnded s) := by
  have hdrop : (passDropped (marked .order s)).pe = (passDropped s).pe
      ∧ (passDropped (marked .order s)).gc = (passDropped s).gc
      ∧ (passDropped (marked .order s)).eg = (passDropped s).eg := by
    by_cases h : s.pe.engine = .pass
    · rw [passDropped, passDropped, if_pos h, if_pos (show (marked .order s).pe.engine = .pass from h),
        passEnded_at (t := marked .order s) (s := s) rfl rfl rfl rfl rfl]
      exact ⟨rfl, rfl, rfl⟩
    · rw [passDropped, passDropped, if_neg h, if_neg (show (marked .order s).pe.engine ≠ .pass from h)]
      exact ⟨rfl, rfl, rfl⟩
  obtain ⟨hpe, hgc, heg⟩ := hdrop
  rw [workEnded, hpe, hgc, heg]
  rfl

/-! ## The order -/

theorem showHead_own (s : State) : showHead s.ps.head s = s := ite_self _

theorem skipRule_out_of_job {s : State} (h : s.ps.job ≠ .running ∧ s.ps.job ≠ .halted) :
    skipRule s = (.refusedState, s) := by
  unfold skipRule
  split
  · next hjob => exact absurd hjob h.1
  · next hjob => exact absurd hjob h.2
  all_goals rfl

theorem skipRule_waiting {s : State} (hjob : s.ps.job = .running ∨ s.ps.job = .halted)
    (h : ∃ u k, s.ps.activity = .recordWait u k false) : skipRule s = (.refusedBusy, s) := by
  rcases hjob with hjob | hjob <;> rw [skipRule, hjob] <;> exact if_pos ((recordWaiting_iff _).2 h)

theorem skipRule_running {s : State} (hjob : s.ps.job = .running)
    (hnot : ¬ ∃ u k, s.ps.activity = .recordWait u k false)
    (h : ¬ (s.ps.head = .stalled ∧ unsettled s.ps.activity = true)) : skipRule s = (.refusedState, s) := by
  rw [skipRule, hjob]
  exact (if_neg (mt (recordWaiting_iff _).1 hnot)).trans (if_neg h)

theorem skipRule_halted {s : State} (hjob : s.ps.job = .halted) (hnot : ¬ ∃ u k, s.ps.activity = .recordWait u k false)
    (h : ¬ (s.ps.current.isSome = true ∧ unsettled s.ps.activity = true)) : skipRule s = (.refusedState, s) := by
  rw [skipRule, hjob]
  exact (if_neg (mt (recordWaiting_iff _).1 hnot)).trans (if_neg (mt (Bool.and_eq_true _ _).mp h))

/-- A part that is settled, its unthread running or to be made, or its job at a boundary (R130, log 12). -/
theorem settled_of {a : Activity} (h : a = .unthreading ∨ a = .boundary ∨ a = .recordJoined .unthread
      ∨ ∃ u, a = .recordWait u .unthread true) :
    (¬ ∃ u k, a = .recordWait u k false) ∧ unsettled a ≠ true := by
  rcases h with rfl | rfl | rfl | ⟨u, rfl⟩ <;> exact ⟨(fun ⟨_, _, h⟩ => nomatch h), Bool.false_ne_true⟩

/-- A SKIP_PART that meets a part at work, STALLED in RUNNING or in HALTED, is accepted (R130). -/
theorem skipRule_accepted {s : State} (hjob : (s.ps.job = .running ∧ s.ps.head = .stalled) ∨ s.ps.job = .halted)
    {p : Nat}
    (hp : s.ps.current = some p) (hact : Unsettled s.ps.activity) : skipRule s = (.accepted, skipPart s) := by
  have hwaits : ¬ recordWaiting s.ps.activity = true := by
    rw [recordWaiting_iff]
    rintro ⟨u, k, h⟩
    rw [h] at hact
    rcases hact with ⟨u, h | h | h⟩ | h | h | h | h | ⟨u, h | h⟩ <;> cases h
  have hunsettled := unsettled_of_Unsettled hact
  rcases hjob with ⟨hjob, hhead⟩ | hjob
  · rw [skipRule, hjob]
    exact (if_neg hwaits).trans (if_pos ⟨hhead, hunsettled⟩)
  · rw [skipRule, hjob]
    exact (if_neg hwaits).trans (if_pos (by rw [hp, hunsettled]; rfl))

theorem exec_skipPart_accepted {s : State} (ho : OrderArrives orderSkipPart s)
    (hjob : (s.ps.job = .running ∧ s.ps.head = .stalled) ∨ s.ps.job = .halted) {p : Nat} (hp : s.ps.current = some p)
    (hact : Unsettled s.ps.activity) :
    exec .skipPart s = .next (recordAnswer .accepted (settle (updateTo (if atTab s then .held else .abandoned) p s)
      (if s.tu.stage = .threaded then .unthread else .nextPart) s.ps.head (marked .order (workEnded s)))) := by
  have hrule := (skipRule_accepted (s := marked .order s) hjob hp hact).trans
    (congrArg (Prod.mk Answer.accepted) (skipPart_eq (s := marked .order s) hp))
  rw [workEnded_marked] at hrule
  show execSkipPart s = _
  rw [execSkipPart, orderEdge_answered ho hrule]
  rfl

/-- What an accepted SKIP_PART makes of a part that takes a state: its update joins and the wire is taken out, or with
none through the halted job stands at the boundary; or the update waits for room (R130). -/
theorem exec_skipPart_settles {s : State} (ho : OrderArrives orderSkipPart s)
    (hjob : (s.ps.job = .running ∧ s.ps.head = .stalled) ∨ s.ps.job = .halted) {p : Nat} (hp : s.ps.current = some p)
    (hact : Unsettled s.ps.activity) {r : RecState} (hr : (if atTab s then RecState.held else .abandoned) = r) :
    (s.prs.canJoin p = true → s.tu.stage = .threaded →
      exec .skipPart s = .next (answeredOnly .accepted { noted (updateTo r p s) (workEnded s) with
        tu := unthreadingSince s.now s.tu
        ps := { (noted (updateTo r p s) (workEnded s)).ps with
          activity := .unthreading
          head := if s.ps.job = .running then .unthreading else s.ps.head } }))
    ∧ (s.prs.canJoin p = true → s.tu.stage ≠ .threaded → s.ps.job = .halted →
      exec .skipPart s = .next (answeredOnly .accepted (atBoundary (noted (updateTo r p s) (workEnded s)))))
    ∧ (s.prs.canJoin p = false →
      exec .skipPart s = .next (answeredOnly .accepted { workEnded s with ps := { (workEnded s).ps with
        activity := .recordWait (updateTo r p s) (if s.tu.stage = .threaded then .unthread else .nextPart)
          false } })) := by
  have hway : s.ps.job = .running ∨ s.ps.job = .halted := hjob.imp_left And.left
  have hexec := exec_skipPart_accepted ho hjob hp hact
  rw [hr] at hexec
  refine ⟨fun hjoin hstage => ?_, fun hjoin hstage hhalted => ?_, fun hfull => ?_⟩
  · have htu : (workEnded s).tu = s.tu := if_neg (by rw [hstage]; decide)
    have hstage' : (noted (updateTo r p s) (marked .order (workEnded s))).tu.stage = .threaded :=
      (workEnded_stage s).2 hstage
    rw [if_pos hstage, settle_joins (u := updateTo r p s) (s := marked .order (workEnded s)) hjoin, followUp,
      requestUnthread_threaded hstage', showHead_under_way (by exact hway)] at hexec
    rw [hexec, ← htu]
    rfl
  · have hjob' : (noted (updateTo r p s) (marked .order (workEnded s))).ps.job ≠ .running :=
      fun h => absurd (hhalted.symm.trans h) (by decide)
    rw [if_neg hstage, settle_joins (u := updateTo r p s) (s := marked .order (workEnded s)) hjoin, followUp,
      partBoundary_stands (Or.inr hjob'), ← atBoundary_recordAnswer] at hexec
    rw [hexec, ← atBoundary_answeredOnly]
    rfl
  · have hhead : showHead s.ps.head (marked .order (workEnded s)) = marked .order (workEnded s) := showHead_own _
    rw [settle_waits (u := updateTo r p s) (s := marked .order (workEnded s)) hfull, hhead] at hexec
    rw [hexec]
    rfl

end Sys2Proof.Machine

namespace Sys2Proof.Proofs

open Sys2Proof.Machine Sys2Proof.Statements

/-- Settles O21: the refusals by state and by where the part stands, and an accepted order as one settling. -/
theorem skipPartSettles : Obligations.SkipPartSettles := by
  intro s ho
  refine ⟨fun hjob => ?_, fun hjob hwait => ?_, fun hjob hhead hnot => ?_, fun hjob hact => ?_,
    fun hjob hp hnot => ?_, fun p hjob hp hact hengine hstage hjoin => ?_, ?_, ?_⟩
  · refine congrArg Host.Outcome.next (orderEdge_answeredOnly ho ?_)
    exact skipRule_out_of_job (s := marked .order s) hjob
  · refine congrArg Host.Outcome.next (orderEdge_answeredOnly ho ?_)
    exact skipRule_waiting (s := marked .order s) hjob hwait
  · refine congrArg Host.Outcome.next (orderEdge_answeredOnly ho ?_)
    exact skipRule_running (s := marked .order s) hjob hnot fun h => hhead h.1
  · refine congrArg Host.Outcome.next (orderEdge_answeredOnly ho ?_)
    obtain ⟨hnot, hunsettled⟩ := settled_of hact
    exact hjob.elim (fun h => skipRule_running (s := marked .order s) h hnot fun hs => absurd hs.2 hunsettled)
      fun h => skipRule_halted (s := marked .order s) h hnot fun hs => absurd hs.2 hunsettled
  · refine congrArg Host.Outcome.next (orderEdge_answeredOnly ho ?_)
    exact skipRule_halted (s := marked .order s) hjob hnot
      fun hs => absurd (hs.1.symm.trans (congrArg Option.isSome hp)) (by decide)
  · have hexec := (exec_skipPart_settles ho (Or.inr hjob) hp (by rw [hact]; exact Or.inr (Or.inr (Or.inl rfl)))
      (r := .held) (if_pos ((atTab_iff s).2 (Or.inr (Or.inr (Or.inl hact)))))).1 hjoin hstage
    refine ⟨_, hexec, rfl, rfl, rfl, rfl, rfl, rfl, hjob, if_neg (by rw [hjob]; decide), rfl, rfl⟩
  · intro p hjob hp hact hengine hstage hjoin rough result
    have hresult {r : RecState} (hr : (if atTab s then RecState.held else .abandoned) = r) :
        result r (withResult r s.jp.flags) := by
      have hexec := (exec_skipPart_settles ho hjob hp (by rw [hact]; exact Or.inr (Or.inl rfl)) hr).1 hjoin hstage
      have hdrop : passDropped s = passEnded s := if_pos hengine
      exact ⟨_, hexec, rfl, rfl, rfl, rfl, rfl, rfl, rfl, rfl, congrArg (·.pe.passKind) hdrop,
        congrArg (·.pe.sub) hdrop, congrArg (·.gc.mode) hdrop, congrArg (·.gc.halted) hdrop, rfl, rfl,
        congrArg (·.eg.recovery) hdrop⟩
    refine ⟨fun ⟨hkind, hphase⟩ => hresult (if_neg (mt (atTab_iff s).1 ?_)),
      fun hkind => hresult (if_pos ((atTab_iff s).2 (Or.inr (Or.inl hkind))))⟩
    rintro (h | h | h | h | h)
    · exact hphase h
    · exact absurd (hkind.symm.trans h) (by decide)
    all_goals exact absurd (hact.symm.trans h) (by decide)
  · intro p hjob hp hact held d w settled
    have hw : w = workEnded s := eq_workEnded s
    have hsettled {r : RecState} (hr : (if atTab s then RecState.held else .abandoned) = r) : settled r := by
      have hexec := exec_skipPart_settles ho hjob hp hact hr
      rw [← hw] at hexec
      exact hexec
    exact ⟨fun h => hsettled (if_pos ((atTab_iff s).2 h)), fun h => hsettled (if_neg (mt (atTab_iff s).1 h))⟩

end Sys2Proof.Proofs

/-! PROOFS. Steps of a traverse and of a cut, and what a cut step brings: the marks and the contour end (R22, R25, R30,
R31, R39, R44 to R47, R120 to R122). -/

namespace Sys2Proof.Machine

open Sys2Proof.Statements

/-! ## An issued step -/

theorem issueStep_x (pos : Bool) (pe : PathEngine) :
    issueStep ⟨.x, pos⟩ pe = { pe with
      dirX := pos, pulsesX := pe.pulsesX + 1
      posX := max (-1048575) (min 1048575 (if pos then pe.posX + 1 else pe.posX - 1)) } := rfl

theorem issueStep_y (pos : Bool) (pe : PathEngine) :
    issueStep ⟨.y, pos⟩ pe = { pe with
      dirY := pos, pulsesY := pe.pulsesY + 1
      posY := max (-1048575) (min 1048575 (if pos then pe.posY + 1 else pe.posY - 1)) } := rfl

/-- An issued step leaves progress and count to the engine's counters. -/
theorem issueStep_progress (st : PathStep) (pe : PathEngine) :
    (issueStep st pe).seg = pe.seg ∧ (issueStep st pe).off = pe.off ∧ (issueStep st pe).count = pe.count := by
  unfold issueStep
  split <;> exact ⟨rfl, rfl, rfl⟩

/-- An issued step leaves what is loaded as it was. -/
theorem issueStep_loaded (st : PathStep) (pe : PathEngine) :
    (issueStep st pe).passPart = pe.passPart ∧ (issueStep st pe).markPtr = pe.markPtr
      ∧ (issueStep st pe).fired = pe.fired := by
  unfold issueStep
  split <;> exact ⟨rfl, rfl, rfl⟩

/-! ## A traverse step -/

/-- A step of the line to the target is taken (R25, R30). -/
theorem exec_traverseStep_taken {tr : Traverse} {st : PathStep} {p : Purpose} {s : State}
    (hengine : s.pe.engine = .traverse) (htr : s.pe.traverse = some tr) (hmoving : tr.moving = true)
    (hact : s.ps.activity = .traversing p)
    (hstep : lineStep tr.sx tr.sy tr.tx tr.ty s.pe.posX s.pe.posY = some st) :
    exec .traverseStep s = .next
      (if (issueStep st s.pe).posX = tr.tx ∧ (issueStep st s.pe).posY = tr.ty then
        arrive p { s with pe := { issueStep st s.pe with stepTimer := some s.now } }
      else { s with pe := { issueStep st s.pe with stepTimer := some s.now } }) := by
  have hact' : (s.setPe { issueStep st s.pe with stepTimer := some s.now }).ps.activity = .traversing p := hact
  show execTraverseStep s = _
  unfold execTraverseStep
  rw [hengine, htr]
  dsimp only
  rw [hmoving, hstep]
  dsimp only
  rw [hact']
  rfl

/-! ## A forward cut step -/

theorem cutReady_of {s : State} (hengine : s.pe.engine = .pass) (hsub : s.pe.sub = some .run)
    (hmode : s.gc.mode = .feeding) (hhalted : s.gc.halted = false) (hfeed : 0 < effectiveFeed s) :
    cutReady s = true := by
  simp [cutReady, passLoaded, hengine, hsub, hmode, hhalted, hfeed]

/-- A forward cut step is taken where the cut is ready and the segment has a step left (R25, R36, R44). -/
theorem exec_forwardCutStep_taken {s : State} {st : PathStep} (hready : cutReady s = true)
    (hstep : nextCutStep s = some st) :
    exec .forwardCutStep s = .next (checkContour (checkMark { s with
      pe := enginesForward st s
      gc := { s.gc with log := (st :: s.gc.log).take 256 }
      eg := { s.eg with recovery := s.eg.recovery - 1 } })) := by
  show execForwardCutStep s = _
  unfold execForwardCutStep
  rw [hready, hstep]
  rfl

/-- The engine after a forward step: the step issued, progress and count moved on (R39, R44). -/
theorem enginesForward_eq (st : PathStep) (s : State) :
    enginesForward st s = { issueStep st s.pe with
      seg := if s.pe.off + 1 = s.js.length ((s.js.part s.pe.passPart).firstSeg + s.pe.seg) then s.pe.seg + 1
        else s.pe.seg
      off := if s.pe.off + 1 = s.js.length ((s.js.part s.pe.passPart).firstSeg + s.pe.seg) then 0 else s.pe.off + 1
      count := s.pe.count + 1
      stepTimer := some s.now } := by
  obtain ⟨hseg, hoff, hcount⟩ := issueStep_progress st s.pe
  unfold enginesForward advanceProgress passEntry
  dsimp only
  rw [hoff]
  split
  · rw [hseg, hcount]
  · rw [← hseg, hcount]

/-! ## Marks -/

theorem markDue_none {s : State}
    (h : ∀ m, s.pe.markPtr = some m →
      ¬ ((s.js.mark ((passEntry s).firstMark + m)).relSeg = s.pe.seg
        ∧ (s.js.mark ((passEntry s).firstMark + m)).offset = s.pe.off)) : markDue s = none := by
  unfold markDue
  split
  · rfl
  · next m hm => exact if_neg fun ⟨hseg, hoff, _⟩ => h m hm ⟨hseg, hoff⟩

theorem checkMark_none {s : State} (h : markDue s = none) : checkMark s = s := by
  rw [checkMark, h]

/-- The pointer mark at the present progress, not yet fired, is due (R45). -/
theorem markDue_some {s : State} {m : Nat} (hm : s.pe.markPtr = some m)
    (hseg : (s.js.mark ((passEntry s).firstMark + m)).relSeg = s.pe.seg)
    (hoff : (s.js.mark ((passEntry s).firstMark + m)).offset = s.pe.off)
    (hfired : s.pe.fired.getLsbD ((passEntry s).firstMark + m) = false) :
    markDue s = some (m, s.js.mark ((passEntry s).firstMark + m)) := by
  rw [markDue, hm]
  exact if_pos ⟨hseg, hoff, hfired⟩

theorem checkMark_energy {s : State} {m : Nat} {mk : MarkEntry} (h : markDue s = some (m, mk))
    (hk : mk.kind = markEnergy) :
    checkMark s = (fireMark m s).setEg { (fireMark m s).eg with primary := mk.value } := by
  rw [checkMark, h]
  exact if_pos hk

theorem checkMark_feed {s : State} {m : Nat} {mk : MarkEntry} (h : markDue s = some (m, mk))
    (hk : mk.kind = markFeed) :
    checkMark s = (fireMark m s).setGc { (fireMark m s).gc with limit := mk.value } := by
  rw [checkMark, h]
  exact (if_neg (by rw [hk]; decide)).trans (if_pos hk)

theorem checkMark_hold {s : State} {m : Nat} {mk : MarkEntry} (h : markDue s = some (m, mk))
    (hk : mk.kind = markHold) : checkMark s = holdEvent (endPass (fireMark m s)) := by
  rw [checkMark, h]
  exact (if_neg (by rw [hk]; decide)).trans ((if_neg (by rw [hk]; decide)).trans (if_pos hk))

theorem holdEvent_drop {s : State} {p : Nat} (hp : s.ps.current = some p) (h : (s.js.part p).policy = policyDrop) :
    holdEvent s = enterWaitRelease s := by
  rw [holdEvent, hp]
  exact (if_neg (by rw [h]; decide)).trans ((if_neg (by rw [h]; decide)).trans (if_pos h))

theorem holdEvent_tabHold {s : State} {p : Nat} (hp : s.ps.current = some p)
    (h : (s.js.part p).policy = policyTabHold) :
    holdEvent s = settle (updateTo .held p s) .unthread s.ps.head s := by
  rw [holdEvent, hp]
  exact if_pos h

theorem holdEvent_tabRelease {s : State} {p : Nat} (hp : s.ps.current = some p)
    (h : (s.js.part p).policy = policyTabRelease) :
    holdEvent s = settle (updateTo .tabbed p s) .unthread s.ps.head s := by
  rw [holdEvent, hp]
  exact (if_neg (by rw [h]; decide)).trans (if_pos h)

/-- A result queued in RUNNING with a wire through has the wire taken out (R115, R120). -/
theorem settle_unthread_runs {u : PartUpdate} {s : State} (hjob : s.ps.job = .running)
    (hstage : s.tu.stage = .threaded) (hjoin : s.prs.canJoin u.part = true) (hd : HeadState) :
    settle u .unthread hd s = { noted u s with
      ps := { (noted u s).ps with head := .unthreading, activity := .unthreading }
      tu := unthreadingSince s.now s.tu } :=
  (settle_joins hjoin _ _).trans (requestUnthread_runs (s := noted u s) hjob hstage)

/-- A result that must wait for room leaves the head as it is (R116). -/
theorem settle_waits_own {u : PartUpdate} {s : State} (hfull : s.prs.canJoin u.part = false) (k : Follow) :
    settle u k s.ps.head s = setActivity (.recordWait u k false) s := by
  rw [settle_waits hfull, showHead_own]

/-! ## The contour end -/

theorem checkContour_short {s : State} (h : s.pe.seg ≠ (passEntry s).segCount) : checkContour s = s :=
  if_neg fun hc => h hc.2

theorem checkContour_release {s : State} {p : Nat} (hengine : s.pe.engine = .pass) (hkind : s.pe.passKind = .release)
    (hseg : s.pe.seg = (passEntry s).segCount) (hp : s.ps.current = some p) :
    checkContour s = settle (updateTo .released p (endPass s)) .unthread s.ps.head (endPass s) := by
  refine (if_pos ⟨hengine, hseg⟩).trans ((if_pos hkind).trans ?_)
  rw [contourEnd, show (endPass s).ps.current = some p from hp]
  rfl

end Sys2Proof.Machine

namespace Sys2Proof.Proofs

open Sys2Proof.Machine Sys2Proof.Statements

/-- Settles O28. -/
theorem traverseStepMoves : Obligations.TraverseStepMoves := by
  refine ⟨fun pos pe => ⟨issueStep_x pos pe, issueStep_y pos pe⟩,
    fun tr st p s hengine htr hmoving hact hstep => ⟨fun haway => ?_, fun hthere => ?_⟩⟩
  · rw [exec_traverseStep_taken hengine htr hmoving hact hstep, if_neg fun h => haway (Prod.ext h.1 h.2)]
  · rw [exec_traverseStep_taken hengine htr hmoving hact hstep, if_pos (Prod.ext_iff.1 hthere)]
    rfl

/-- Settles O29: with no mark due and short of the contour end, the checks after the step change nothing. -/
theorem forwardCutStep : Obligations.ForwardCutStep := by
  intro st s hengine hsub hmode hhalted hfeed hstep
  refine ⟨enginesForward_eq st s, fun hseg hmark => ?_⟩
  obtain ⟨hpart, hptr, -⟩ := issueStep_loaded st s.pe
  rw [exec_forwardCutStep_taken (cutReady_of hengine hsub hmode hhalted hfeed) hstep, enginesForward_eq, checkMark_none,
    checkContour_short]
  · exact fun h => hseg (h.trans (congrArg (fun p => (s.js.part p).segCount) hpart))
  · refine markDue_none fun m hm => ?_
    rw [passEntry, hpart]
    exact hmark m (hptr.symm.trans hm)

/-- Settles O30, by the kind of the mark and, at a HOLD mark, by the part's policy. -/
theorem marksFire : Obligations.MarksFire := by
  refine ⟨?_, fun st s hengine hsub hmode hhalted hfeed hstep =>
    exec_forwardCutStep_taken (cutReady_of hengine hsub hmode hhalted hfeed) hstep⟩
  intro m s e mk pe hm hseg hoff hfired
  have hdue : markDue s = some (m, mk) := markDue_some hm hseg hoff hfired
  refine ⟨checkMark_energy hdue, checkMark_feed hdue, ?_⟩
  intro p hk hp ended zone tabbed
  have hcheck : checkMark s = holdEvent ended := checkMark_hold hdue hk
  have htabbed {r : RecState} (hr : r ≠ .released)
      (hhold : holdEvent ended = settle (updateTo r p ended) .unthread s.ps.head ended) :
      tabbed r (withResult r s.jp.flags) := by
    refine ⟨fun hjoin hjob hstage => ?_, fun hfull => ?_⟩
    · rw [hcheck, hhold, settle_unthread_runs (u := updateTo r p ended) (s := ended) hjob hstage hjoin, noted]
      simp only [updateTo, hr, if_false]
      rfl
    · exact (hcheck.trans hhold).trans (settle_waits_own (u := updateTo r p ended) (s := ended) hfull _)
  refine ⟨fun hpolicy => hcheck.trans (holdEvent_drop (s := ended) hp hpolicy), fun hpolicy => ?_, fun hpolicy => ?_⟩
  · exact htabbed (by decide) (holdEvent_tabHold (s := ended) hp hpolicy)
  · exact htabbed (by decide) (holdEvent_tabRelease (s := ended) hp hpolicy)

/-- Settles O31. -/
theorem contourEndReleases : Obligations.ContourEndReleases := by
  refine ⟨fun s hseg => checkContour_short hseg, fun p s hengine hkind hseg hp => ⟨fun hfull => ?_,
    fun hjob hstage hjoin => ⟨_, rfl, ?_⟩⟩⟩
  · rw [checkContour_release hengine hkind hseg hp]
    exact settle_waits_own (u := updateTo .released p s) (s := endPass s) hfull _
  · rw [checkContour_release hengine hkind hseg hp,
      settle_unthread_runs (u := updateTo .released p (endPass s)) (s := endPass s) hjob hstage hjoin]
    exact ⟨rfl, rfl, rfl, rfl, rfl, rfl, rfl, rfl, rfl, rfl, rfl, rfl⟩

end Sys2Proof.Proofs

/-! PROOFS. The gap: a sample through the filter and what it brings, and the retract and replay steps (R41, R51 to R68,
R76). -/

namespace Sys2Proof.Machine

open Sys2Proof.Statements

/-! ## A sample -/

theorem filterSample_eq (c : Params) (v : Nat) (g : GapControl) :
    filterSample c v g = { g with
      acc := g.acc - g.acc / 8 + v
      cls := if (g.acc - g.acc / 8 + v) / 8 < c.ts then .short
        else if (g.acc - g.acc / 8 + v) / 8 ≤ c.tOpen then .normal else .openGap } := rfl

/-- The approach value is of class NORMAL (R53, R55). -/
theorem approach_eq {c : Params} (h : c.ts ≤ c.tOpen) (g : GapControl) :
    approach c g = { g with acc := 8 * c.tOpen, cls := .normal } := by
  have hclass : classOf c (8 * c.tOpen / 8) = .normal := by
    rw [Nat.mul_div_cancel_left _ (by decide), classOf, if_neg (Nat.not_lt.2 h), if_pos (Nat.le_refl _)]
  rw [approach, setAccumulator, hclass]

theorem classOf_short_iff (c : Params) (gf : Nat) : classOf c gf = .short ↔ gf < c.ts := by
  unfold classOf
  split
  · next h => exact iff_of_true rfl h
  · next h =>
    refine iff_of_false ?_ h
    split <;> decide

/-- A mode in which samples are taken (R51). -/
theorem cutting_iff (m : GapMode) : m.cutting = true ↔ m ≠ .idle ∧ m ≠ .wireWait := by
  cases m <;> decide

/-- A sample taken acts in the mode it finds (R51). -/
theorem exec_gapSample_taken {s : State} (hmode : s.gc.mode.cutting = true) (hhalted : s.gc.halted = false)
    (v : BitVec 10) :
    exec (.gapSample v) s = .next (actOnSample { s with gc := filterSample s.cfg v.toNat s.gc }) :=
  if_pos ⟨hmode, hhalted⟩

theorem exec_gapSample_ignored {s : State} (h : s.gc.mode = .idle ∨ s.gc.mode = .wireWait ∨ s.gc.halted = true)
    (v : BitVec 10) : exec (.gapSample v) s = .next s := by
  refine if_neg fun ⟨hmode, hhalted⟩ => ?_
  obtain ⟨hidle, hwait⟩ := (cutting_iff _).1 hmode
  rcases h with h | h | h
  · exact hidle h
  · exact hwait h
  · exact absurd (hhalted.symm.trans h) (by decide)

/-! ## What a sample brings -/

theorem actOnSample_feeding_short {s : State} (hm : s.gc.mode = .feeding) (hc : s.gc.cls = .short) :
    actOnSample s = beginRetract { s with pe := { s.pe with sub := some .gap } } := by
  rw [actOnSample, hm, hc]
  rfl

theorem actOnSample_replaying_short {s : State} (hm : s.gc.mode = .replaying) (hc : s.gc.cls = .short) :
    actOnSample s = beginRetract s := by
  rw [actOnSample, hm, hc]

theorem actOnSample_retracting_clear {s : State} (hm : s.gc.mode = .retracting) (hc : s.gc.cls ≠ .short) :
    actOnSample s = replayOrEnd (completeAsked s) := by
  unfold actOnSample
  rw [hm]
  cases h : s.gc.cls with
  | short => exact absurd h hc
  | normal | openGap => rfl

theorem actOnSample_stalled_clear {s : State} (hm : s.gc.mode = .stalledTiming) (hc : s.gc.cls ≠ .short) :
    actOnSample s = endStall s := by
  unfold actOnSample
  rw [hm]
  cases h : s.gc.cls with
  | short => exact absurd h hc
  | normal | openGap => rfl

/-- Where its class asks for nothing, a sample changes the gap alone (R61, R64, R66, R67). -/
theorem actOnSample_quiet {s : State}
    (h : s.gc.mode = .stalledStuck ∨ (s.gc.mode = .retracting ∨ s.gc.mode = .stalledTiming) ∧ s.gc.cls = .short
      ∨ (s.gc.mode = .feeding ∨ s.gc.mode = .replaying) ∧ s.gc.cls ≠ .short) : actOnSample s = s := by
  unfold actOnSample
  rcases h with hm | ⟨hm | hm, hc⟩ | ⟨hm | hm, hc⟩ <;> rw [hm]
  · rw [hc]
  · rw [hc]
  all_goals
    cases h : s.gc.cls with
    | short => exact absurd h hc
    | normal | openGap => rfl

/-! ## A retract episode -/

theorem retractSpent_iff (s : State) : retractSpent s = true ↔ s.gc.log = [] ∨ s.cfg.retractMax ≤ s.gc.redo.length := by
  rw [retractSpent, Bool.or_eq_true, decide_eq_true_eq, List.isEmpty_iff]

theorem enterStall_running {s : State} (h : s.ps.job = .running) :
    enterStall s = { s with
      ps := { s.ps with head := .stalled }
      gc := { s.gc with mode := .stalledTiming, asked := false, stepTimer := none, stallTimer := some s.now } } :=
  showHead_of_running (s := s.setGc { s.gc with
    mode := .stalledTiming, asked := false, stepTimer := none, stallTimer := some s.now }) h .stalled

theorem beginRetract_spent {s : State} (h : s.gc.log = [] ∨ s.cfg.retractMax ≤ s.gc.redo.length) :
    beginRetract s = enterStall s := if_pos ((retractSpent_iff s).2 h)

theorem beginRetract_asks {s : State} (hlog : s.gc.log ≠ []) (hredo : s.gc.redo.length < s.cfg.retractMax) :
    beginRetract s = { s with gc := { s.gc with mode := .retracting, asked := true, stepTimer := none } } :=
  if_neg fun h => ((retractSpent_iff s).1 h).elim hlog (Nat.not_le.2 hredo)

/-- Accumulator and class are what they were. -/
def SameFilter (s t : State) : Prop := t.gc.acc = s.gc.acc ∧ t.gc.cls = s.gc.cls

theorem SameFilter.trans {s t u : State} (h : SameFilter s t) (h' : SameFilter t u) : SameFilter s u :=
  ⟨h'.1.trans h.1, h'.2.trans h.2⟩

theorem sameFilter_showHead (hd : HeadState) (s : State) : SameFilter s (showHead hd s) := by
  unfold showHead
  split <;> exact ⟨rfl, rfl⟩

theorem sameFilter_beginRetract (s : State) : SameFilter s (beginRetract s) := by
  unfold beginRetract
  split
  · exact sameFilter_showHead _ (s.setGc { s.gc with
      mode := .stalledTiming, asked := false, stepTimer := none, stallTimer := some s.now })
  · exact ⟨rfl, rfl⟩

theorem sameFilter_replayOrEnd (s : State) : SameFilter s (replayOrEnd s) := by
  unfold replayOrEnd
  split <;> exact ⟨rfl, rfl⟩

theorem sameFilter_completeAsked (s : State) : SameFilter s (completeAsked s) := by
  unfold completeAsked retractOnce
  split
  · split <;> exact ⟨rfl, rfl⟩
  · exact ⟨rfl, rfl⟩

/-- What a sample brings leaves accumulator and class as the filter formed them. -/
theorem sameFilter_actOnSample (s : State) : SameFilter s (actOnSample s) := by
  unfold actOnSample
  split
  · exact sameFilter_beginRetract (s.setPe { s.pe with sub := some .gap })
  · exact sameFilter_beginRetract s
  · exact (sameFilter_completeAsked s).trans (sameFilter_replayOrEnd _)
  · exact (sameFilter_completeAsked s).trans (sameFilter_replayOrEnd _)
  · exact (sameFilter_showHead _ s).trans (sameFilter_replayOrEnd _)
  · exact (sameFilter_showHead _ s).trans (sameFilter_replayOrEnd _)
  · exact ⟨rfl, rfl⟩

end Sys2Proof.Machine

namespace Sys2Proof.Proofs

open Sys2Proof.Machine Sys2Proof.Statements

/-- Settles O33. -/
theorem shortBeginsRetract : Obligations.ShortBeginsRetract := by
  intro v s hmode hhalted hredo hmax g
  rw [exec_gapSample_taken (by rw [hmode]; rfl) hhalted]
  have hclass := classOf_short_iff s.cfg (g.acc / 8)
  have hshort (h : g.acc / 8 < s.cfg.ts) : actOnSample { s with gc := g }
      = beginRetract { s with gc := g, pe := { s.pe with sub := some .gap } } :=
    actOnSample_feeding_short (s := { s with gc := g }) hmode (hclass.2 h)
  refine ⟨fun hclear => ?_, fun hs hlog => ?_, fun hs hlog hjob => ?_⟩
  · exact congrArg Host.Outcome.next (actOnSample_quiet (s := { s with gc := g })
      (Or.inr (Or.inr ⟨Or.inl hmode, mt hclass.1 (Nat.not_lt.2 hclear)⟩)))
  · rw [hshort hs, beginRetract_asks]
    exacts [hlog, (congrArg List.length hredo).trans_lt hmax]
  · rw [hshort hs, beginRetract_spent (Or.inl (by exact hlog)), enterStall_running]
    exact hjob

/-- Settles O32, by the mode the sample finds and the class it gives. -/
theorem sampleFiltered : Obligations.SampleFiltered := by
  intro v s a c g
  have hshort : g.cls = c := rfl
  refine ⟨rfl, fun h => approach_eq h _, fun h => exec_gapSample_ignored h v, fun hm hh => ?_, fun hidle hwait hh => ?_,
    fun hh h => ?_, ?_, fun hm hh hc hjob => ⟨fun hredo => ?_, fun hredo => ?_⟩,
    fun hm hh hc => ⟨fun hlog hmax => ?_, fun hspent hjob => ?_⟩⟩
  · rw [exec_gapSample_taken (by rw [hm]; rfl) hh, filterSample_eq,
      actOnSample_quiet (s := { s with gc := g }) (Or.inl hm)]
  · refine ⟨_, exec_gapSample_taken ((cutting_iff _).2 ⟨hidle, hwait⟩) hh v, ?_⟩
    obtain ⟨-, -, -, -, hjs, htu, hcli, hpva, hprs, hjp⟩ := actOnSample_frame { s with gc := g }
    obtain ⟨hacc, hcls⟩ := sameFilter_actOnSample { s with gc := g }
    exact ⟨hacc, hcls, htu, hcli, hpva, hprs, hjp, hjs⟩
  · have hcut : s.gc.mode.cutting = true := by
      rcases h with ⟨hm | hm, -⟩ | ⟨hm, -⟩ <;> rw [hm] <;> rfl
    rw [exec_gapSample_taken hcut hh]
    refine congrArg Host.Outcome.next (actOnSample_quiet (s := { s with gc := g }) (Or.inr ?_))
    exact h.imp id fun h => ⟨Or.inr h.1, h.2⟩
  · intro hm hh hc u
    have hu : completeAsked { s with gc := g } = { s with pe := u.pe, gc := u.gc } :=
      completeAsked_at (s := { s with gc := g }) (t := { s with gc := g }) rfl rfl rfl rfl
    rw [exec_gapSample_taken (by rw [hm]; rfl) hh,
      actOnSample_retracting_clear (s := { s with gc := filterSample s.cfg v.toNat s.gc }) hm hc]
    show (_ → Host.Outcome.next (replayOrEnd (completeAsked { s with gc := g })) = _)
      ∧ (_ → Host.Outcome.next (replayOrEnd (completeAsked { s with gc := g })) = _)
    rw [hu]
    exact ⟨fun hredo => congrArg Host.Outcome.next (replayOrEnd_replays (s := { s with pe := u.pe, gc := u.gc }) hredo),
      fun hredo => congrArg Host.Outcome.next (replayOrEnd_ends (s := { s with pe := u.pe, gc := u.gc }) hredo)⟩
  · rw [exec_gapSample_taken (by rw [hm]; rfl) hh, actOnSample_stalled_clear, endStall_running, replayOrEnd_replays]
    exacts [rfl, hredo, hjob, hm, hc]
  · rw [exec_gapSample_taken (by rw [hm]; rfl) hh, actOnSample_stalled_clear, endStall_running, replayOrEnd_ends]
    exacts [rfl, hredo, hjob, hm, hc]
  · rw [exec_gapSample_taken (by rw [hm]; rfl) hh, actOnSample_replaying_short, beginRetract_asks]
    exacts [rfl, hlog, hmax, hm, hc]
  · rw [exec_gapSample_taken (by rw [hm]; rfl) hh, actOnSample_replaying_short, beginRetract_spent,
      enterStall_running]
    exacts [rfl, hjob, hspent, hm, hc]

end Sys2Proof.Proofs

/-! PROOFS. Retract and replay steps, and that the one undoes the other (R41, R42, R60, R62, R65); the stall timer and
the warning timer (R67, R172). -/

namespace Sys2Proof.Machine

open Sys2Proof.Statements

/-! ## Retract steps -/

/-- The engine after a retract step: the reverse step issued, progress and count moved back with the borrow (R41). -/
theorem enginesBack_eq (st : PathStep) (s : State) :
    enginesBack st s = { issueStep { st with pos := !st.pos } s.pe with
      seg := if 0 < s.pe.off then s.pe.seg else s.pe.seg - 1
      off := if 0 < s.pe.off then s.pe.off - 1
        else s.js.length ((s.js.part s.pe.passPart).firstSeg + (s.pe.seg - 1)) - 1
      count := s.pe.count - 1
      stepTimer := some s.now } := by
  obtain ⟨hseg, hoff, hcount⟩ := issueStep_progress st.reverse s.pe
  unfold enginesBack retreatProgress passEntry
  dsimp only
  rw [hoff]
  split
  · rw [hcount, ← hseg]
    rfl
  · rw [hcount, hseg]
    rfl

theorem retractOnce_cons {s : State} {st : PathStep} {rest : List PathStep} (h : s.gc.log = st :: rest) :
    retractOnce s = { s with
      pe := enginesBack st s
      gc := { s.gc with log := rest, redo := st :: s.gc.redo, asked := false, stepTimer := some s.now } } := by
  rw [retractOnce, h]
  rfl

theorem completeAsked_asked {s : State} (h : s.gc.asked = true) : completeAsked s = retractOnce s := if_pos h

/-- With none asked for, or nothing to undo, there is no retract step to complete. -/
theorem completeAsked_nothing {s : State} (h : s.gc.asked = false ∨ s.gc.log = []) : completeAsked s = s := by
  unfold completeAsked
  split
  · next hasked =>
    rw [retractOnce, h.resolve_left (by simp [hasked])]
  · rfl

/-- A retract step is made, and the limits tested after it (R62, R63). -/
theorem exec_retractStep_taken {s : State} {st : PathStep} {rest : List PathStep} (hmode : s.gc.mode = .retracting)
    (hhalted : s.gc.halted = false) (hlog : s.gc.log = st :: rest) :
    exec .retractStep s = .next
      (if (retractOnce s).gc.cls = .short ∧ retractSpent (retractOnce s) = true then enterStall (retractOnce s)
        else retractOnce s) :=
  if_pos ⟨hmode, hhalted, by rw [hlog]; exact List.cons_ne_nil _ _⟩

/-! ## Replay steps -/

theorem exec_replayStep_taken {s : State} {st : PathStep} {rest : List PathStep} (hmode : s.gc.mode = .replaying)
    (hhalted : s.gc.halted = false) (hfeed : 0 < effectiveFeed s) (hredo : s.gc.redo = st :: rest) :
    exec .replayStep s = .next
      (let t := afterForward { s with
        pe := enginesForward st s
        gc := { s.gc with log := (st :: s.gc.log).take 256, redo := rest, stepTimer := some s.now } }
      if t.gc.mode = .replaying ∧ t.gc.redo = [] then endEpisode t else t) := by
  show execReplayStep s = _
  unfold execReplayStep
  rw [hredo]
  exact if_pos ⟨hmode, hhalted, hfeed⟩

/-- With no mark due and short of the contour end, what follows a cut step is the recovery count alone (R44, R76). -/
theorem afterForward_quiet {s : State}
    (hmark : ∀ m, s.pe.markPtr = some m →
      ¬ ((s.js.mark ((passEntry s).firstMark + m)).relSeg = s.pe.seg
        ∧ (s.js.mark ((passEntry s).firstMark + m)).offset = s.pe.off))
    (hseg : s.pe.seg ≠ (passEntry s).segCount) :
    afterForward s = { s with eg := { s.eg with recovery := s.eg.recovery - 1 } } := by
  have hdue : markDue (s.setEg (recoveryStep s.eg)) = none := markDue_none hmark
  rw [afterForward, checkMark_none hdue]
  exact checkContour_short (s := s.setEg (recoveryStep s.eg)) hseg

/-! ## The one undoes the other -/

/-- Off the limits a move and the move back leave a coordinate as it was. -/
theorem clampCoord_moveBy_back {c : Int} (hlow : -1048574 ≤ c) (hhigh : c ≤ 1048574) (pos : Bool) :
    clampCoord (moveBy pos (clampCoord (moveBy (!pos) c))) = c := by
  have hlimit : Config.coordLimit = 1048575 := rfl
  unfold clampCoord moveBy
  rw [hlimit]
  cases pos
  · simp only [Bool.not_false, if_true, Bool.false_eq_true, if_false]
    omega
  · simp only [Bool.not_true, if_true, Bool.false_eq_true, if_false]
    omega

theorem issueStep_back_position {st : PathStep} {pe pe' : PathEngine} (hx : pe'.posX = (issueStep st.reverse pe).posX)
    (hy : pe'.posY = (issueStep st.reverse pe).posY) (hxlow : -1048574 ≤ pe.posX) (hxhigh : pe.posX ≤ 1048574)
    (hylow : -1048574 ≤ pe.posY) (hyhigh : pe.posY ≤ 1048574) :
    (issueStep st pe').posX = pe.posX ∧ (issueStep st pe').posY = pe.posY := by
  obtain ⟨axis, pos⟩ := st
  cases axis
  · exact ⟨(congrArg (fun c => clampCoord (moveBy pos c)) hx).trans (clampCoord_moveBy_back hxlow hxhigh pos), hy⟩
  · exact ⟨hx, (congrArg (fun c => clampCoord (moveBy pos c)) hy).trans (clampCoord_moveBy_back hylow hyhigh pos)⟩

end Sys2Proof.Machine

namespace Sys2Proof.Proofs

open Sys2Proof.Machine Sys2Proof.Statements

/-- Settles O34. -/
theorem retractStepUndoes : Obligations.RetractStepUndoes := by
  refine ⟨?_, fun s h => completeAsked_nothing h⟩
  intro st rest s hlog e moved t
  have ht : retractOnce s = t := by rw [retractOnce_cons hlog, enginesBack_eq]
  refine ⟨ht, fun hasked => (completeAsked_asked hasked).trans ht, fun hmode hhalted => ⟨fun hnot => ?_,
    fun hcls hspent hjob => ?_⟩⟩
  · rw [exec_retractStep_taken hmode hhalted hlog, ht]
    exact congrArg Host.Outcome.next (if_neg fun h => hnot ⟨h.1, (retractSpent_iff t).1 h.2⟩)
  · rw [exec_retractStep_taken hmode hhalted hlog, ht]
    exact congrArg Host.Outcome.next ((if_pos ⟨hcls, (retractSpent_iff t).2 hspent⟩).trans (enterStall_running hjob))

/-- Settles O35: nothing but the recovery count follows the step, and an empty stack ends the episode. -/
theorem replayStepReplays : Obligations.ReplayStepReplays := by
  intro st rest s hmode hhalted hfeed hredo hengine e len seg off moved pe log hseg hmark
  obtain ⟨hpart, hptr, -⟩ := issueStep_loaded st s.pe
  have hafter : afterForward { s with
      pe := enginesForward st s
      gc := { s.gc with log := (st :: s.gc.log).take 256, redo := rest, stepTimer := some s.now } }
      = { s with
          pe := pe
          gc := { s.gc with log := log, redo := rest, stepTimer := some s.now }
          eg := { s.eg with recovery := s.eg.recovery - 1 } } := by
    rw [enginesForward_eq]
    refine afterForward_quiet (fun m hm => ?_) fun h => ?_
    · rw [passEntry, hpart]
      exact hmark m (hptr.symm.trans hm)
    · exact hseg (h.trans (congrArg (fun p => (s.js.part p).segCount) hpart))
  rw [exec_replayStep_taken hmode hhalted hfeed hredo, hafter]
  refine ⟨fun hrest => congrArg Host.Outcome.next (if_neg fun h => hrest h.2), fun hrest => ?_⟩
  refine congrArg Host.Outcome.next ((if_pos ⟨hmode, hrest⟩).trans ?_)
  rw [hrest]
  rfl

/-- Settles O36: axis by axis for the position, and by the borrow for the progress. -/
theorem replayUndoesRetract : Obligations.ReplayUndoesRetract := by
  intro st rest s hlog hxlow hxhigh hylow hyhigh hcount hborrow hprev hlen pe
  have hback : (retractOnce s).pe = enginesBack st s := by rw [retractOnce_cons hlog]
  have hjs : (retractOnce s).js = s.js := by rw [retractOnce_cons hlog]
  obtain ⟨hpart, -⟩ := issueStep_loaded { st with pos := !st.pos } s.pe
  obtain ⟨hx, hy⟩ := issueStep_back_position (st := st) (pe' := (retractOnce s).pe) (pe := s.pe)
    (by rw [hback, enginesBack_eq]; rfl) (by rw [hback, enginesBack_eq]; rfl) hxlow hxhigh hylow hyhigh
  show (enginesForward st (retractOnce s)).posX = _ ∧ (enginesForward st (retractOnce s)).posY = _
    ∧ (enginesForward st (retractOnce s)).seg = _ ∧ (enginesForward st (retractOnce s)).off = _
    ∧ (enginesForward st (retractOnce s)).count = _
  rw [enginesForward_eq]
  refine ⟨hx, hy, ?_⟩
  rw [hjs, hback, enginesBack_eq]
  dsimp only
  rw [hpart, Nat.sub_add_cancel hcount]
  rcases Nat.eq_zero_or_pos s.pe.off with hoff | hoff
  · simp only [hoff, Nat.lt_irrefl, if_false, Nat.sub_add_cancel (hprev hoff), if_true,
      Nat.sub_add_cancel (hborrow hoff), and_self]
  · have hshort : s.pe.off ≠ s.js.length ((s.js.part s.pe.passPart).firstSeg + s.pe.seg) := by omega
    simp only [hoff, if_true, Nat.sub_add_cancel hoff, hshort, if_false, and_self]

/-- Settles O37. -/
theorem warningTimers : Obligations.WarningTimers := by
  intro s
  refine ⟨fun hmode hhalted => if_pos ⟨hmode, hhalted⟩, fun hkind htimer =>
    ⟨_, if_pos ⟨hkind, Option.isSome_iff_ne_none.2 htimer⟩, rfl, ?_⟩⟩
  exact if_neg fun h => Bool.false_ne_true h.2

end Sys2Proof.Proofs

/-! PROOFS. The stepping rules of lines and arcs and the segments they trace (R17, R21, R26 to R29); the override
causes, the active level, the feeds and the outputs (R56, R57, R75 to R81, R86). -/

namespace Sys2Proof.Machine

open Sys2Proof.Statements

/-! ## Lines and arcs -/

theorem lineStep_x {sx sy ex ey px py : Int} (hx : (px - sx).natAbs < (ex - sx).natAbs)
    (hd : (((px - sx).natAbs : Int) * (ey - sy).natAbs - ((py - sy).natAbs : Int) * (ex - sx).natAbs ≤ 0)
      ∨ (ey - sy).natAbs ≤ (py - sy).natAbs) :
    lineStep sx sy ex ey px py = some ⟨.x, decide (sx < ex)⟩ :=
  if_pos ⟨hx, hd.imp (by rw [Nat.cast_mul, Nat.cast_mul]; exact id) Nat.not_lt.2⟩

theorem lineStep_y {sx sy ex ey px py : Int}
    (hx : ¬ ((px - sx).natAbs < (ex - sx).natAbs
      ∧ ((((px - sx).natAbs : Int) * (ey - sy).natAbs - ((py - sy).natAbs : Int) * (ex - sx).natAbs ≤ 0)
        ∨ (ey - sy).natAbs ≤ (py - sy).natAbs)))
    (hy : (py - sy).natAbs < (ey - sy).natAbs) :
    lineStep sx sy ex ey px py = some ⟨.y, decide (sy < ey)⟩ := by
  refine (if_neg fun h => hx ⟨h.1, h.2.imp ?_ Nat.not_lt.1⟩).trans (if_pos hy)
  rw [Nat.cast_mul, Nat.cast_mul]
  exact id

theorem lineStep_none {sx sy ex ey px py : Int} (hx : (ex - sx).natAbs ≤ (px - sx).natAbs)
    (hy : (ey - sy).natAbs ≤ (py - sy).natAbs) : lineStep sx sy ex ey px py = none :=
  (if_neg fun h => absurd h.1 (Nat.not_lt.2 hx)).trans (if_neg (Nat.not_lt.2 hy))

theorem decide_zero_lt_sub (a b : Int) : decide (0 < b - a) = decide (a < b) :=
  decide_eq_decide.2 Int.sub_pos

theorem moveBy_decide (a b c : Int) : moveBy (decide (a < b)) c = if a < b then c + 1 else c - 1 := by
  unfold moveBy
  simp only [decide_eq_true_eq]

/-! ## Tracing a segment -/

theorem segmentStep_line {g : SegEntry} (h : g.kind = segLine) (start : Int × Int) (px py : Int) :
    segmentStep g start px py = lineStep start.1 start.2 g.endX g.endY px py := if_pos h

theorem segmentStep_arc {g : SegEntry} (h : g.kind = segArcCw ∨ g.kind = segArcCcw) (start : Int × Int) (px py : Int) :
    segmentStep g start px py = arcStep g.cenX g.cenY start.1 start.2 g.endX g.endY px py := by
  refine (if_neg ?_).trans (if_pos h)
  rcases h with h | h <;> rw [h] <;> decide

theorem traceSegment_none {g : SegEntry} {start p : Int × Int} (h : segmentStep g start p.1 p.2 = none) (n : Nat) :
    traceSegment g start (n + 1) p = p := by
  rw [traceSegment, h]

theorem traceSegment_some {g : SegEntry} {start p : Int × Int} {st : PathStep}
    (h : segmentStep g start p.1 p.2 = some st) (n : Nat) :
    traceSegment g start (n + 1) p = traceSegment g start n (stepFrom st p) := by
  rw [traceSegment, h]

/-- A coordinate on the way from one to another. -/
def Between (a b c : Int) : Prop := (a ≤ c ∧ c ≤ b) ∨ (b ≤ c ∧ c ≤ a)

/-- A step on an axis that has not arrived, in the direction from start to end. -/
def StepsTowards (start stop p : Int × Int) (st : PathStep) : Prop :=
  (st = ⟨.x, decide (start.1 < stop.1)⟩ ∧ p.1 ≠ stop.1) ∨ (st = ⟨.y, decide (start.2 < stop.2)⟩ ∧ p.2 ≠ stop.2)

/-- A move towards the end stays on the way and comes one nearer. -/
theorem between_moveBy {a b c : Int} (h : Between a b c) (hne : c ≠ b) :
    Between a b (moveBy (decide (a < b)) c) ∧ (b - moveBy (decide (a < b)) c).natAbs + 1 = (b - c).natAbs := by
  unfold Between at *
  rw [moveBy_decide]
  split <;> omega

/-- A rule that steps towards the end from every place on the way reaches it in |Δx| + |Δy| steps. -/
theorem traceSegment_reaches {g : SegEntry} {start : Int × Int}
    (hstep : ∀ p : Int × Int, Between start.1 g.endX p.1 → Between start.2 g.endY p.2 → p ≠ (g.endX, g.endY) →
      ∃ st, segmentStep g start p.1 p.2 = some st ∧ StepsTowards start (g.endX, g.endY) p st)
    (n : Nat) (p : Int × Int) (hx : Between start.1 g.endX p.1) (hy : Between start.2 g.endY p.2)
    (hn : (g.endX - p.1).natAbs + (g.endY - p.2).natAbs = n) : traceSegment g start n p = (g.endX, g.endY) := by
  induction n generalizing p with
  | zero =>
    rw [traceSegment]
    exact Prod.ext (by omega) (by omega)
  | succ n ih =>
    have hne : p ≠ (g.endX, g.endY) := by
      rintro rfl
      simp at hn
    obtain ⟨st, hst, hto⟩ := hstep p hx hy hne
    rw [traceSegment_some hst]
    rcases hto with ⟨rfl, haway⟩ | ⟨rfl, haway⟩
    · obtain ⟨hx', hnear⟩ := between_moveBy hx haway
      exact ih _ hx' hy (by simp only [stepFrom]; omega)
    · obtain ⟨hy', hnear⟩ := between_moveBy hy haway
      exact ih _ hx hy' (by simp only [stepFrom]; omega)

theorem between_start (a b : Int) : Between a b a := by
  unfold Between
  omega

/-- Short of its end a line has a step, towards it (R26, R27). -/
theorem lineStep_towards {start stop p : Int × Int} (hx : Between start.1 stop.1 p.1) (hy : Between start.2 stop.2 p.2)
    (hne : p ≠ stop) :
    ∃ st, lineStep start.1 start.2 stop.1 stop.2 p.1 p.2 = some st ∧ StepsTowards start stop p st := by
  unfold Between at hx hy
  by_cases hstep : (p.1 - start.1).natAbs < (stop.1 - start.1).natAbs
      ∧ ((((p.1 - start.1).natAbs : Int) * (stop.2 - start.2).natAbs
            - ((p.2 - start.2).natAbs : Int) * (stop.1 - start.1).natAbs ≤ 0)
        ∨ (stop.2 - start.2).natAbs ≤ (p.2 - start.2).natAbs)
  · exact ⟨_, lineStep_x hstep.1 hstep.2, Or.inl ⟨rfl, fun h => absurd hstep.1 (by rw [h]; exact Nat.lt_irrefl _)⟩⟩
  · have hlty : (p.2 - start.2).natAbs < (stop.2 - start.2).natAbs := by
      by_contra hge
      have hxarrived : ¬ (p.1 - start.1).natAbs < (stop.1 - start.1).natAbs :=
        fun h => hstep ⟨h, Or.inr (Nat.not_lt.1 hge)⟩
      exact hne (Prod.ext (by omega) (by omega))
    exact ⟨_, lineStep_y hstep hlty, Or.inr ⟨rfl, fun h => absurd hlty (by rw [h]; exact Nat.lt_irrefl _)⟩⟩

/-- Short of its end an arc has a step, towards it (R28, R29). -/
theorem arcStep_towards {start stop p : Int × Int} (cx cy : Int) (hne : p ≠ stop) :
    ∃ st, arcStep cx cy start.1 start.2 stop.1 stop.2 p.1 p.2 = some st ∧ StepsTowards start stop p st := by
  unfold arcStep
  dsimp only
  split
  · next hx =>
    split
    · next hy => exact absurd (Prod.ext hx hy) hne
    · next hy => exact ⟨_, rfl, Or.inr ⟨rfl, hy⟩⟩
  · next hx =>
    split
    · exact ⟨_, rfl, Or.inl ⟨rfl, hx⟩⟩
    · next hy =>
      split
      · exact ⟨_, rfl, Or.inl ⟨rfl, hx⟩⟩
      · exact ⟨_, rfl, Or.inr ⟨rfl, hy⟩⟩

theorem segStart_eq (js : JobStore) (p k : Nat) : js.segStart (js.part p) k = startOf js p k := by
  cases k <;> rfl

/-! ## Causes, level and feed -/

theorem neighbours_iff (zx a b : Nat) : neighbours zx a b = true ↔ Neighbours zx a b := by
  unfold neighbours Neighbours
  simp only [Bool.and_eq_true, decide_eq_true_eq]
  omega

theorem heardLately_iff (e : Peer) : e.heardLately = true ↔ e.live = .fresh ∨ e.live = .stale := decide_eq_true_iff

theorem near_iff (zx zone : Nat) (h : HeadState) (e : Peer) : e.near zx zone h = true ↔ ShowsNear zx zone h e := by
  unfold Peer.near ShowsNear
  simp only [Bool.and_eq_true, Bool.not_eq_true', decide_eq_true_eq, neighbours_iff, heardLately_iff, and_assoc]

theorem peerCause_iff (h : HeadState) (s : State) : peerCause h s = true ↔ s.pe.engine = .pass ∧ PeerNear h s := by
  unfold peerCause PeerNear passEntry
  simp only [Bool.and_eq_true, passLoaded_iff, List.any_eq_true, near_iff]

theorem overridden_iff (s : State) :
    overridden s = true ↔ (s.cfg.enThread = true ∧ peerThreadNear s = true)
      ∨ (s.cfg.enRelease = true ∧ peerReleaseNear s = true) ∨ (s.cfg.enRecovery = true ∧ 0 < s.eg.recovery) := by
  unfold overridden recoveryHolds
  simp only [Bool.or_eq_true, Bool.and_eq_true, decide_eq_true_eq, or_assoc]

theorem eact_le_primary (s : State) : eact s ≤ s.eg.primary := by
  unfold eact
  split
  · exact Nat.min_le_left _ _
  · exact Nat.le_refl _

theorem unscaledFeed_le {s : State} (h : s.cfg.ts < s.cfg.gt) : unscaledFeed s ≤ s.gc.limit := by
  unfold unscaledFeed
  split
  · exact Nat.zero_le _
  · exact Nat.le_refl _
  · split
    · exact Nat.le_refl _
    · next hgf =>
      have hle : gapFiltered s.gc - s.cfg.ts ≤ s.cfg.gt - s.cfg.ts := by omega
      exact Nat.div_le_of_le_mul (by rw [Nat.mul_comm (s.cfg.gt - _)]; exact Nat.mul_le_mul_left _ hle)

/-- The effective feed never exceeds the limit (R57). -/
theorem effectiveFeed_le {s : State} (h : s.cfg.ts < s.cfg.gt) : effectiveFeed s ≤ s.gc.limit := by
  unfold effectiveFeed
  refine Nat.div_le_of_le_mul ?_
  rw [Nat.mul_comm s.eg.primary]
  exact Nat.mul_le_mul (unscaledFeed_le h) (eact_le_primary s)

theorem pulseEn_iff (s : State) :
    pulseEn s = true ↔ s.pe.engine = .pass ∧ s.gc.halted = false ∧ 0 < eact s
      ∧ (s.gc.mode = .feeding ∨ s.gc.mode = .retracting ∨ s.gc.mode = .replaying ∨ s.gc.mode = .stalledTiming
        ∨ s.gc.mode = .stalledStuck) := by
  have hmode : s.gc.mode.cutting = true ↔ s.gc.mode = .feeding ∨ s.gc.mode = .retracting ∨ s.gc.mode = .replaying
      ∨ s.gc.mode = .stalledTiming ∨ s.gc.mode = .stalledStuck := by
    cases s.gc.mode <;> decide
  unfold pulseEn pulseWindow
  simp only [Bool.and_eq_true, passLoaded_iff, Bool.not_eq_true', decide_eq_true_eq, hmode]
  tauto

end Sys2Proof.Machine

namespace Sys2Proof.Proofs

open Sys2Proof.Machine Sys2Proof.Statements

/-- Settles O27: the rules step by step, and that a traced segment reaches its end, since each step comes one nearer. -/
theorem lineRule : Obligations.LineRule := by
  refine ⟨?_, ?_, ?_, ?_, ?_, ?_⟩
  · intro sx sy ex ey px py n m x y d
    rw [decide_zero_lt_sub, decide_zero_lt_sub]
    exact ⟨lineStep_x, lineStep_y, lineStep_none⟩
  · intro cx cy sx sy ex ey px py u v u' v' rr errorX errorY step
    have hX : arcError (moveBy (decide (sx < ex)) u) v rr = errorX := by rw [moveBy_decide]; rfl
    have hY : arcError u (moveBy (decide (sy < ey)) v) rr = errorY := by rw [moveBy_decide]; rfl
    exact ⟨fun hx hy => (if_pos hx).trans (if_pos hy), fun hx hy => (if_pos hx).trans (if_neg hy),
      fun hx hy => (if_neg hx).trans (if_pos hy),
      fun hx hy h => (if_neg hx).trans ((if_neg hy).trans (if_pos (hX ▸ hY ▸ h))),
      fun hx hy h => (if_neg hx).trans ((if_neg hy).trans (if_neg (hX ▸ hY ▸ Nat.not_le.2 h)))⟩
  · intro g start p
    refine ⟨fun h => segmentStep_line h start _ _, fun h => segmentStep_arc h start _ _, rfl,
      fun n h => traceSegment_none h n, fun n st h => ?_⟩
    rw [traceSegment_some h]
    obtain ⟨axis, pos⟩ := st
    cases axis <;> cases pos <;> rfl
  · intro s
    rw [← segStart_eq]
    rfl
  · intro g start h
    refine traceSegment_reaches (fun p hx hy hne => ?_) _ start (between_start _ _) (between_start _ _) rfl
    rw [segmentStep_line h]
    exact lineStep_towards (stop := (g.endX, g.endY)) hx hy hne
  · intro g start h
    refine traceSegment_reaches (fun p _ _ hne => ?_) _ start (between_start _ _) (between_start _ _) rfl
    rw [segmentStep_arc h]
    exact arcStep_towards (stop := (g.endX, g.endY)) _ _ hne

/-- Settles O38. -/
theorem activeLevelAndFeed : Obligations.ActiveLevelAndFeed := by
  refine ⟨fun s => ⟨peerCause_iff _ s, peerCause_iff _ s, decide_eq_true_iff, ?_, ?_, effectiveFeed_le, fun h => ?_,
    pulseEn_iff s, fun h => if_pos h, fun h => if_neg (by simp [h])⟩, fun st => ?_⟩
  · exact ⟨fun h => if_neg (mt (overridden_iff s).1 h), fun h => if_pos ((overridden_iff s).2 h)⟩
  · unfold effectiveFeed unscaledFeed
    cases s.gc.cls <;> rfl
  · rcases h with h | h
    · rw [effectiveFeed, h, Nat.mul_zero, Nat.zero_div]
    · rw [effectiveFeed, unscaledFeed, h, Nat.zero_mul, Nat.zero_div]
  · refine ⟨?_, decide_eq_true_iff, decide_eq_true_iff, decide_eq_true_iff, decide_eq_true_iff, decide_eq_true_iff,
      decide_eq_true_iff⟩
    cases st <;> decide

end Sys2Proof.Proofs

/-! PROOFS. The Cell Line rows that end a sending, judge a burst, or find the line stuck (R135, R140 to R146, R165). -/

namespace Sys2Proof.Machine

open Sys2Proof.Statements

/-! ## The end of a sending -/

theorem exec_frameSent_sending {x : Sending} {s : State} (h : s.cli.sending = some x) (t : Nat) :
    exec (.frameSent t) s = .next (
      if x.live = true then announceIntent x.frame.age.toNat { s with
        now := max s.now t
        cli := { s.cli with sending := none, stuckTimer := none, releasedAt := some (max s.now t) } }
      else { s with
        now := max s.now t
        cli := { s.cli with sending := none, stuckTimer := none, releasedAt := some (max s.now t) } }) := by
  show execFrameSent t s = _
  rw [execFrameSent, h]
  rfl

/-! ## Bursts -/

theorem receives_iff (m : LineMode) :
    receives m = true ↔ m = .listen ∨ m = .active ∨ m = .backoff ∨ m = .stuck ∨ m = .noSlot := by
  cases m <;> decide

/-- A burst that ends while the station is not sending, or at the instant it began to, is judged (R141, R155). -/
theorem exec_frameReceived_judged {s : State} {t : Nat} (hmode : receives s.cli.mode = true)
    (hsending : sendingBefore (max s.now t) s.cli = false) (b : Burst) :
    exec (.frameReceived t b) s = .next (judgeBurst b (burstEnds (s.atTime t))) :=
  if_neg (by rw [hmode, hsending]; decide)

theorem burstEnds_idle {s : State} (h : s.cli.sending = none) :
    burstEnds s = { s with cli := { s.cli with stuckTimer := none, releasedAt := some s.now } } :=
  if_neg (by rw [h]; decide)

theorem burstEnds_sending {s : State} (h : s.cli.sending.isSome = true) : burstEnds s = s := if_pos h

theorem overStuck_iff (b : Burst) : Burst.overStuck b = true ↔ 800 < b.halves.length := decide_eq_true_iff

/-- A burst that is not taken up: the own transmitter had a part in it, or it set LINE_STUCK (R135, R141). -/
theorem judgeBurst_passed_over {b : Burst} (h : b.ownDrove = true ∨ Burst.overStuck b = true) (s : State) :
    judgeBurst b s = s := if_pos (by rwa [Bool.or_eq_true])

theorem judgeBurst_bad {b : Burst} (hown : b.ownDrove = false) (hstuck : Burst.overStuck b = false)
    (hform : Burst.goodForm b = false) (s : State) :
    judgeBurst b s = { s with cli := { s.cli with crc := min 65535 (s.cli.crc + 1) } } :=
  (if_neg (by rw [hown, hstuck]; decide)).trans (if_neg (by simp [hform]))

theorem judgeBurst_good {b : Burst} (hown : b.ownDrove = false) (hstuck : Burst.overStuck b = false)
    (hform : Burst.goodForm b = true) (s : State) :
    judgeBurst b s = judgeFrame (frameOfBits (Burst.bits b)) s :=
  (if_neg (by rw [hown, hstuck]; decide)).trans (if_pos hform)

theorem judgeFrame_stray {f : Frame} {s : State} (h : s.cfg.cellSize ≤ f.station.toNat) :
    judgeFrame f s = { s with cli := { s.cli with stray := min 65535 (s.cli.stray + 1) } } := if_pos h

theorem judgeFrame_own {f : Frame} {s : State} (hcell : f.station.toNat < s.cfg.cellSize)
    (hown : f.station.toNat = s.cli.station) :
    judgeFrame f s = { s with
      cli := { s.cli with dup := min 65535 (s.cli.dup + 1) }, jp := flagged flagDupStation s.jp } :=
  (if_neg (Nat.not_le.2 hcell)).trans (if_pos hown)

theorem judgeFrame_valid {f : Frame} {s : State} (hcell : f.station.toNat < s.cfg.cellSize)
    (hother : f.station.toNat ≠ s.cli.station) : judgeFrame f s = takeValid f s :=
  (if_neg (Nat.not_le.2 hcell)).trans (if_neg hother)

/-! ## A stuck line -/

theorem ranOut_iff (now : Nat) (timer : Option Nat) (limit : Nat) :
    ranOut now timer limit = true ↔ ∃ d, timer = some d ∧ d + limit ≤ now := by
  cases timer <;> simp [ranOut]

theorem ranOut_iff_lt (now : Nat) (timer : Option Nat) :
    ranOut now timer 401 = true ↔ ∃ d, timer = some d ∧ d + 400 < now := ranOut_iff now timer 401

theorem exec_lineStuckTimeout_enters {s : State} (hsending : s.cli.sending = none)
    (hmode : s.cli.mode = .listen ∨ s.cli.mode = .active ∨ s.cli.mode = .backoff) :
    exec .lineStuckTimeout s = .next (raiseFlag flagLineStuck
      (s.setCli { stuckDriven s.now s.cli with mode := .stuck, listenLeft := 0 })) := by
  show execLineStuckTimeout s = _
  unfold execLineStuckTimeout
  rw [if_neg (by rw [hsending]; decide)]
  rcases hmode with h | h | h <;> rw [h]

theorem exec_lineStuckTimeout_stays {s : State} (hsending : s.cli.sending = none)
    (hmode : s.cli.mode = .noSlot ∨ s.cli.mode = .stuck) :
    exec .lineStuckTimeout s = .next (raiseFlag flagLineStuck (s.setCli (stuckDriven s.now s.cli))) := by
  show execLineStuckTimeout s = _
  unfold execLineStuckTimeout
  rw [if_neg (by rw [hsending]; decide)]
  rcases hmode with h | h <;> rw [h]

/-- While sending, in SOLO and in OFF the timeout finds nothing (R146, R151, log 40). -/
theorem exec_lineStuckTimeout_ignored {s : State} (hmode : s.cli.mode = .solo ∨ s.cli.mode = .off) :
    exec .lineStuckTimeout s = .next s := by
  show execLineStuckTimeout s = _
  unfold execLineStuckTimeout
  rcases hmode with h | h <;> rw [h] <;> exact ite_self _

end Sys2Proof.Machine

namespace Sys2Proof.Proofs

open Sys2Proof.Machine Sys2Proof.Statements

/-- Settles O48. -/
theorem frameSentOrCut : Obligations.FrameSentOrCut := by
  intro x s hsending sent
  refine ⟨fun t hlive => ?_, fun t hlive => ?_, if_pos (by rw [hsending]; rfl)⟩
  · exact (exec_frameSent_sending hsending t).trans (congrArg Host.Outcome.next (if_pos hlive))
  · exact (exec_frameSent_sending hsending t).trans (congrArg Host.Outcome.next (if_neg (by simp [hlive])))

/-- Settles O49: once the pair is shown released, each judgement changes its own counter. -/
theorem burstsJudged : Obligations.BurstsJudged := by
  intro t b s hmode hsending f n c
  have hexec : exec (.frameReceived t b) s = .next (judgeBurst b { s with now := n, cli := c }) := by
    rw [exec_frameReceived_judged ((receives_iff _).2 hmode) (by rw [sendingBefore, hsending]; rfl),
      burstEnds_idle (s := s.atTime t) hsending]
    rfl
  rw [hexec]
  refine ⟨overStuck_iff b, fun h => by rw [judgeBurst_passed_over h], fun hown hstuck => ⟨fun hform => ?_,
    fun hform hstray => ?_, fun hform hcell hstation => ?_⟩⟩
  · rw [judgeBurst_bad hown hstuck hform]
  · rw [judgeBurst_good hown hstuck hform]
    exact congrArg Host.Outcome.next (judgeFrame_stray (s := { s with now := n, cli := c }) hstray)
  · rw [judgeBurst_good hown hstuck hform]
    exact congrArg Host.Outcome.next (judgeFrame_own (s := { s with now := n, cli := c }) hcell hstation)

/-- Settles O52. -/
theorem stuckLine : Obligations.StuckLine := by
  intro s
  refine ⟨fun hsending hmode => ?_, fun hsending hmode => ?_, fun hmode => ?_, ranOut_iff_lt _ _,
    fun hmode => if_pos hmode,
    fun hmode => ?_⟩
  · refine ⟨_, exec_lineStuckTimeout_enters hsending hmode, rfl, rfl, rfl, rfl, rfl, rfl⟩
  · exact ⟨_, exec_lineStuckTimeout_stays hsending hmode, rfl, rfl, rfl⟩
  · exact exec_lineStuckTimeout_ignored hmode
  · show (decide (s.cli.mode = .stuck) && ranOut s.now s.cli.releasedAt (s.cfg.cellSize * 128)) = true ↔ _
    rw [hmode, decide_eq_true (rfl : LineMode.stuck = .stuck), Bool.true_and, ranOut_iff]

end Sys2Proof.Proofs

/-! PROOFS. The frame on the line: its bits, its check code, its coding, and that what is sent is read back (R135, R138,
R139, R141). -/

namespace Sys2Proof.Machine

open Sys2Proof.Statements

/-! ## Words as bits, most significant first -/

@[simp] theorem length_msbFirst {n : Nat} (w : BitVec n) : (msbFirst w).length = n := by
  rw [msbFirst, List.length_map, List.length_range]

theorem getElem?_msbFirst {n : Nat} (w : BitVec n) {i : Nat} (h : i < n) : (msbFirst w)[i]? = some (w.getMsbD i) := by
  rw [msbFirst, List.getElem?_map, List.getElem?_range h]
  rfl

theorem bitsToNat_append (bs : List Bool) (b : Bool) : bitsToNat (bs ++ [b]) = 2 * bitsToNat bs + b.toNat := by
  rw [bitsToNat, List.foldl_append]
  rfl

theorem testBit_bitsToNat (bs : List Bool) (i : Nat) : (bitsToNat bs).testBit i = bs.reverse.getD i false := by
  induction bs using List.reverseRecOn generalizing i with
  | nil => simp [bitsToNat]
  | append_singleton bs b ih =>
    rw [bitsToNat_append, List.reverse_concat]
    cases i with
    | zero => cases b <;> simp [Nat.testBit_zero]
    | succ i =>
      have hhalf : (2 * bitsToNat bs + b.toNat) / 2 = bitsToNat bs := by
        cases b <;> simp only [Bool.toNat_false, Bool.toNat_true] <;> omega
      rw [Nat.testBit_succ, hhalf, ih, List.getD_cons_succ]

/-- The number that bits spell has them for its bits. -/
theorem getMsbD_ofNat_bitsToNat {n i : Nat} {bs : List Bool} (hlen : bs.length = n) (hi : i < n) :
    (BitVec.ofNat n (bitsToNat bs)).getMsbD i = bs.getD i false := by
  rw [BitVec.getMsbD_eq_getLsbD, BitVec.getLsbD_ofNat, testBit_bitsToNat, List.getD_eq_getElem?_getD,
    List.getElem?_reverse (by omega), List.getD_eq_getElem?_getD]
  have hplace : bs.length - 1 - (n - 1 - i) = i := by omega
  have hinside : n - 1 - i < n := by omega
  rw [hplace, decide_eq_true hi, decide_eq_true hinside]
  rfl

theorem msbFirst_ofNat_bitsToNat {n : Nat} {bs : List Bool} (hlen : bs.length = n) :
    msbFirst (BitVec.ofNat n (bitsToNat bs)) = bs := by
  refine List.ext_getElem? fun i => ?_
  by_cases hi : i < n
  · rw [getElem?_msbFirst _ hi, getMsbD_ofNat_bitsToNat hlen hi, List.getD_eq_getElem?_getD,
      List.getElem?_eq_getElem (hlen ▸ hi)]
    rfl
  · rw [List.getElem?_eq_none (by rw [length_msbFirst]; omega), List.getElem?_eq_none (by omega)]

theorem ofNat_bitsToNat_msbFirst {n : Nat} (w : BitVec n) : BitVec.ofNat n (bitsToNat (msbFirst w)) = w := by
  refine BitVec.eq_of_getMsbD_eq fun i hi => ?_
  rw [getMsbD_ofNat_bitsToNat (length_msbFirst w) hi, List.getD_eq_getElem?_getD, getElem?_msbFirst w hi]
  rfl

/-- A word is spelt by its own bits and no others of its length. -/
theorem eq_ofNat_bitsToNat_iff {n : Nat} {w : BitVec n} {bs : List Bool} (hlen : bs.length = n) :
    w = BitVec.ofNat n (bitsToNat bs) ↔ msbFirst w = bs :=
  ⟨fun h => by rw [h, msbFirst_ofNat_bitsToNat hlen], fun h => by rw [← h, ofNat_bitsToNat_msbFirst]⟩

/-! ## Check code and form -/

theorem checkCode_append (bs : List Bool) (b : Bool) :
    checkCode (bs ++ [b])
      = (checkCode bs <<< 1) ^^^ (if Bool.xor b (checkCode bs).msb then 0x1021#16 else 0#16) := by
  rw [checkCode, List.foldl_append]
  show crcBit (checkCode bs) b = _
  unfold crcBit
  split
  · rfl
  · rw [BitVec.xor_zero]

theorem violation_iff (b : Burst) : Burst.violation b = true ↔ none ∈ decodeHalves b.halves := by
  rw [Burst.violation, List.any_eq_true]
  exact ⟨fun ⟨x, hx, hnone⟩ => Option.isNone_iff_eq_none.1 hnone ▸ hx, fun h => ⟨none, h, rfl⟩⟩

theorem goodForm_iff (b : Burst) :
    Burst.goodForm b = true ↔ (Burst.bits b).take 8 = Config.preamble ∧ Burst.violation b = false
      ∧ (Burst.bits b).length = 73
      ∧ msbFirst (checkCode (((Burst.bits b).drop 8).take 49)) = (Burst.bits b).drop 57 := by
  unfold Burst.goodForm
  simp only [Bool.and_eq_true, decide_eq_true_eq, Bool.not_eq_true', and_assoc]
  refine and_congr_right' (and_congr_right' (and_congr_right fun hlen => ?_))
  have hrest : ((Burst.bits b).drop 57).length = 16 := by rw [List.length_drop, hlen]
  rw [bitField, List.take_of_length_le hrest.le, eq_ofNat_bitsToNat_iff hrest]

/-! ## Frames -/

theorem length_body (f : Frame) : f.body.length = 49 := by
  simp [Frame.body]

theorem length_bits (f : Frame) : f.bits.length = 73 := by
  simp [Frame.bits, length_body, Config.preamble]

/-- Every field is read back from its place among the bits, behind the widths of those before it (R209). -/
theorem frameOfBits_bits (f : Frame) : frameOfBits f.bits = f := by
  have hlast : decide (bitsToNat [f.lastValid] = 1) = f.lastValid := by cases f.lastValid <;> rfl
  unfold frameOfBits bitField
  simp [Frame.bits, Frame.body, Config.preamble, List.drop_append, List.drop_eq_nil_of_le,
    ofNat_bitsToNat_msbFirst, hlast]

theorem goodForm_sent (f : Frame) : Burst.goodForm { halves := manchester f.bits, ownDrove := false } = true := by
  obtain ⟨hbits, hviolation, -⟩ := burst_manchester f.bits false
  have hpre : Config.preamble.length = 8 := rfl
  have hhead : (Config.preamble ++ f.body).length = 57 := by rw [List.length_append, hpre, length_body]
  rw [goodForm_iff, hbits]
  refine ⟨?_, hviolation, length_bits f, ?_⟩
  · rw [Frame.bits, List.append_assoc, List.take_left' hpre]
  · rw [Frame.bits, List.drop_left' hhead, List.append_assoc, List.drop_left' hpre, List.take_left' (length_body f)]

theorem getElem?_manchester (bs : List Bool) (i : Nat) :
    (manchester bs)[2 * i]? = bs[i]? ∧ (manchester bs)[2 * i + 1]? = bs[i]?.map (!·) := by
  induction bs generalizing i with
  | nil => exact ⟨rfl, rfl⟩
  | cons b bs ih =>
    cases i with
    | zero => exact ⟨rfl, rfl⟩
    | succ i => exact ih i

end Sys2Proof.Machine

namespace Sys2Proof.Proofs

open Sys2Proof.Machine Sys2Proof.Statements

/-- Settles O51. -/
theorem frameRoundTrip : Obligations.FrameRoundTrip := by
  refine ⟨⟨rfl, checkCode_append⟩, fun _ _ _ => ⟨rfl, fun _ _ => rfl, rfl, rfl, rfl⟩,
    fun b => ⟨violation_iff b, goodForm_iff b⟩, fun n w => ⟨length_msbFirst w, fun i hi => ?_⟩, rfl,
    fun f => ⟨rfl, length_body f, rfl, length_bits f, frameOfBits_bits f, goodForm_sent f, (burst_manchester _ _).1⟩,
    fun x l i s hsending hslot hnow hi => ?_⟩
  · rw [List.getD_eq_getElem?_getD, getElem?_msbFirst w hi]
    rfl
  · obtain ⟨heven, hodd⟩ := getElem?_manchester x.frame.bits i
    obtain ⟨b, hb⟩ : ∃ b, x.frame.bits[i]? = some b := ⟨_, List.getElem?_eq_getElem (by rw [length_bits]; exact hi)⟩
    have hplace : s.now - l = i := by omega
    rw [pairDrive, hsending, hslot]
    dsimp only
    rw [hplace, List.getD_eq_getElem?_getD, List.getD_eq_getElem?_getD, heven, hodd, hb]
    rfl

end Sys2Proof.Proofs

/-! PROOFS. A valid frame: the peer's entry, the release counting, and the slot timer's re-alignment (R142, R143, R154
to R158). -/

namespace Sys2Proof.Machine

open Sys2Proof.Statements

/-! ## The burst -/

theorem length_le_decodeHalves (hs : List Bool) : hs.length ≤ 2 * (decodeHalves hs).length := by
  induction hs using decodeHalves.induct with
  | case1 first second rest ih =>
    rw [decodeHalves]
    simp only [List.length_cons]
    omega
  | case2 => simp [decodeHalves]
  | case3 => simp [decodeHalves]

/-- A frame of good form is far too short to have set LINE_STUCK. -/
theorem overStuck_eq_false {b : Burst} (h : Burst.goodForm b = true) : Burst.overStuck b = false := by
  obtain ⟨-, -, hlen, -⟩ := (goodForm_iff b).1 h
  rw [Burst.bits, List.length_map] at hlen
  have hhalves := length_le_decodeHalves b.halves
  refine Bool.eq_false_iff.2 fun hstuck => ?_
  rw [overStuck_iff] at hstuck
  omega

/-! ## Release counting -/

theorem releaseStep_eq (n l : BitVec 8) : releaseStep n l = (n.toNat + 256 - l.toNat) % 256 := by
  have hl := l.isLt
  rw [releaseStep, BitVec.toNat_sub]
  congr 1
  omega

theorem unheardOf_iff (e : Peer) : e.unheardOf = true ↔ e.live = .never ∨ e.live = .absent := decide_eq_true_iff

theorem countsByStep_iff (ann : Half) (f : Frame) (e : Peer) :
    countsByStep ann f e = true ↔ ¬ (e.live = .never ∨ e.live = .absent) ∧ e.isForeign = false ∧ f.plate = ann := by
  unfold countsByStep
  simp only [Bool.and_eq_true, Bool.not_eq_true', decide_eq_true_eq, ← Bool.not_eq_true e.unheardOf, unheardOf_iff,
    and_assoc]

theorem attributes_iff (ann : Half) (f : Frame) (e : Peer) :
    attributes ann f e = true ↔ countsByStep ann f e = true ∧ 1 ≤ releaseStep f.count e.last
      ∧ releaseStep f.count e.last ≤ 127 ∧ f.lastValid = true := by
  unfold attributes
  simp only [Bool.and_eq_true, decide_eq_true_eq, and_assoc]

theorem fellBack_iff (ann : Half) (f : Frame) (e : Peer) :
    fellBack ann f e = true ↔ countsByStep ann f e = true ∧ 128 ≤ releaseStep f.count e.last := by
  unfold fellBack
  simp only [Bool.and_eq_true, decide_eq_true_eq]

theorem turnsForeign_iff (ann : Half) (f : Frame) (e : Peer) :
    turnsForeign ann f e = true ↔ f.plate ≠ ann ∧ ((e.live = .never ∨ e.live = .absent) ∨ e.isForeign = false) := by
  unfold turnsForeign
  simp only [Bool.and_eq_true, Bool.or_eq_true, Bool.not_eq_true', decide_eq_true_eq, unheardOf_iff]

theorem releases_last (ann : Half) (f : Frame) (e : Peer) : (e.releases ann f).last = f.count := by
  unfold Peer.releases
  split
  · rfl
  · split
    · rfl
    · split <;> rfl

theorem releases_foreign {ann : Half} {f : Frame} (h : f.plate ≠ ann) (e : Peer) :
    e.releases ann f = { e with last := f.count } := if_pos h

theorem releases_afresh {ann : Half} {f : Frame} {e : Peer} (hplate : f.plate = ann)
    (h : (e.live = .never ∨ e.live = .absent) ∨ e.isForeign = true) :
    e.releases ann f = e.recount f.count :=
  (if_neg (not_not.2 hplate)).trans (if_pos (by rwa [Bool.or_eq_true, unheardOf_iff]))

theorem releases_step {ann : Half} {f : Frame} {e : Peer} (hcounts : countsByStep ann f e = true)
    (hstep : releaseStep f.count e.last ≤ 127) :
    e.releases ann f = { e with
      cumulative := min 65535 (e.cumulative + releaseStep f.count e.last)
      attributed :=
        if (attributes ann f e && decide (e.attributed < min 65535 (e.cumulative + releaseStep f.count e.last))) then
          e.attributed + 1
        else e.attributed
      last := f.count } := by
  obtain ⟨hheard, hforeign, hplate⟩ := (countsByStep_iff ann f e).1 hcounts
  refine (if_neg (not_not.2 hplate)).trans ((if_neg ?_).trans (if_pos hstep))
  rw [Bool.or_eq_true, unheardOf_iff, hforeign]
  exact fun h => h.elim hheard Bool.false_ne_true

theorem releases_back {ann : Half} {f : Frame} {e : Peer} (hcounts : countsByStep ann f e = true)
    (hstep : 128 ≤ releaseStep f.count e.last) : e.releases ann f = { e with last := f.count } := by
  obtain ⟨hheard, hforeign, hplate⟩ := (countsByStep_iff ann f e).1 hcounts
  refine (if_neg (not_not.2 hplate)).trans ((if_neg ?_).trans (if_neg (by omega)))
  rw [Bool.or_eq_true, unheardOf_iff, hforeign]
  exact fun h => h.elim hheard Bool.false_ne_true

theorem attributes_eq_false {ann : Half} {f : Frame} {e : Peer} (h : countsByStep ann f e = false) :
    attributes ann f e = false := by
  simp [attributes, h]

theorem fellBack_eq_false {ann : Half} {f : Frame} {e : Peer} (h : countsByStep ann f e = false) :
    fellBack ann f e = false := by
  simp [fellBack, h]

/-! ## The view -/

theorem takeFrame_eq (ann : Half) (f : Frame) (v : PeerView) :
    v.takeFrame ann f = { v with
      peers := Memory.write Peer.never f.station.toNat ((v.peer f.station.toNat).afterFrame ann f) v.peers
      errors := if fellBack ann f (v.peer f.station.toNat) then min 65535 (v.errors + 1) else v.errors
      tally := if attributes ann f (v.peer f.station.toNat) then
          Memory.write 0 f.lastZone.toNat (min 255 (Memory.read 0 v.tally f.lastZone.toNat + 1)) v.tally
        else v.tally } := by
  unfold PeerView.takeFrame
  dsimp only
  split <;> rfl

theorem takeValid_eq (f : Frame) (s : State) :
    takeValid f s = { s with
      pva := s.pva.takeFrame s.prs.announced f
      cli := hearFrame s.cfg s.now f.station.toNat s.cli
      jp := if turnsForeign s.prs.announced f (s.pva.peer f.station.toNat) then flagged flagPlateForeign s.jp
        else s.jp } := by
  unfold takeValid
  dsimp only
  split <;> rfl

/-! ## Re-alignment -/

/-- The slot put off by whole rounds: the first of the rounds that leaves a slot's time after the last (R143). -/
theorem realigned_last {c : Params} (hcell : 0 < c.cellSize) (station p t l : Nat) :
    l + 128 ≤ realigned c station p t (some l)
      ∧ ∃ j, realigned c station p t (some l) = realigned c station p t none + j * (c.cellSize * 128)
        ∧ ∀ i, i < j → realigned c station p t none + i * (c.cellSize * 128) < l + 128 := by
  have hround : 0 < c.cellSize * 128 := Nat.mul_pos hcell (by decide)
  have hsome : realigned c station p t (some l) =
      if realigned c station p t none < l + 128 then
        realigned c station p t none
          + (l + 128 - realigned c station p t none + c.cellSize * 128 - 1) / (c.cellSize * 128) * (c.cellSize * 128)
      else realigned c station p t none := rfl
  rw [hsome]
  generalize realigned c station p t none = target
  generalize c.cellSize * 128 = round at hround
  split
  · next hlate =>
    have hceil := Nat.div_add_mod (l + 128 - target + round - 1) round
    have hmod := Nat.mod_lt (l + 128 - target + round - 1) hround
    rw [Nat.mul_comm] at hceil
    refine ⟨by omega, _, rfl, fun i hi => ?_⟩
    have hle := Nat.mul_le_mul_right round (Nat.succ_le_of_lt hi)
    rw [Nat.succ_mul] at hle
    omega
  · next hearly => exact ⟨by omega, 0, by omega, fun i hi => absurd hi (Nat.not_lt_zero i)⟩

/-- Another station's slot lies at least one slot before the own. -/
theorem slots_between_pos {station p cell : Nat} (hstation : station < cell) (hp : p < cell) (hne : p ≠ station) :
    1 ≤ (station + cell - p) % cell := by
  rcases Nat.lt_or_ge p station with h | h
  · rw [show station + cell - p = station - p + cell by omega, Nat.add_mod_right, Nat.mod_eq_of_lt (by omega)]
    omega
  · rw [Nat.mod_eq_of_lt (by omega)]
    omega

/-- What a valid frame does to the counts of its station's entry and of the view (R156 to R160). -/
theorem takeFrame_counts (ann : Half) (f : Frame) (v : PeerView) {e e' : Peer}
    (he : v.peer f.station.toNat = e) (he' : e.afterFrame ann f = e') :
    let step := (f.count.toNat + 256 - e.last.toNat) % 256
    let first := e.live = .never ∨ e.live = .absent
    let counts (cumulative attributed errors : Nat) (tally : Memory Nat) : Prop :=
      e'.cumulative = cumulative ∧ e'.attributed = attributed ∧ (v.takeFrame ann f).errors = errors
        ∧ (v.takeFrame ann f).tally = tally
    (f.plate ≠ ann → counts e.cumulative e.attributed v.errors v.tally)
    ∧ (f.plate = ann → (first ∨ e.isForeign = true) → counts f.count.toNat 0 v.errors v.tally)
    ∧ (f.plate = ann → ¬ first → e.isForeign = false →
      (step ≤ 127 → (step = 0 ∨ f.lastValid = false) →
        counts (min 65535 (e.cumulative + step)) e.attributed v.errors v.tally)
      ∧ (1 ≤ step → step ≤ 127 → f.lastValid = true →
        counts (min 65535 (e.cumulative + step))
          (if e.attributed < min 65535 (e.cumulative + step) then e.attributed + 1 else e.attributed) v.errors
          (Memory.write 0 f.lastZone.toNat (min 255 (Memory.read 0 v.tally f.lastZone.toNat + 1)) v.tally))
      ∧ (128 ≤ step → counts e.cumulative e.attributed (min 65535 (v.errors + 1)) v.tally)) := by
  intro step first counts
  have hstep : releaseStep f.count e.last = step := releaseStep_eq _ _
  have hcounted {x : Peer} {fell attributed : Bool} (hx : e.releases ann f = x) (hf : fellBack ann f e = fell)
      (ha : attributes ann f e = attributed) :
      counts x.cumulative x.attributed (if fell then min 65535 (v.errors + 1) else v.errors)
        (if attributed then
          Memory.write 0 f.lastZone.toNat (min 255 (Memory.read 0 v.tally f.lastZone.toNat + 1)) v.tally
        else v.tally) := by
    subst hx hf ha he'
    refine ⟨rfl, rfl, ?_, ?_⟩ <;> rw [takeFrame_eq, he]
  refine ⟨fun hplate => ?_, fun hplate hafresh => ?_, fun hplate hheard hforeign => ?_⟩
  · have hno : countsByStep ann f e = false :=
      Bool.eq_false_iff.2 fun h => hplate ((countsByStep_iff ann f e).1 h).2.2
    exact hcounted (releases_foreign hplate e) (fellBack_eq_false hno) (attributes_eq_false hno)
  · have hno : countsByStep ann f e = false := Bool.eq_false_iff.2 fun h => by
      obtain ⟨hheard, hmatching, -⟩ := (countsByStep_iff ann f e).1 h
      rw [hmatching] at hafresh
      exact hafresh.elim hheard Bool.false_ne_true
    exact hcounted (releases_afresh hplate hafresh) (fellBack_eq_false hno) (attributes_eq_false hno)
  · have hcounts : countsByStep ann f e = true := (countsByStep_iff ann f e).2 ⟨hheard, hforeign, hplate⟩
    refine ⟨fun hlow hplain => ?_, fun hpos hlow hvalid => ?_, fun hhigh => ?_⟩
    · have hattributes : attributes ann f e = false := Bool.eq_false_iff.2 fun h => by
        obtain ⟨-, hpos, -, hvalid⟩ := (attributes_iff ann f e).1 h
        rcases hplain with hzero | hinvalid
        · omega
        · rw [hinvalid] at hvalid
          exact Bool.false_ne_true hvalid
      have hfell : fellBack ann f e = false := Bool.eq_false_iff.2 fun h => by
        have := ((fellBack_iff ann f e).1 h).2
        omega
      have hx := releases_step hcounts (by omega)
      rw [hattributes, hstep] at hx
      exact hcounted hx hfell hattributes
    · have hattributes : attributes ann f e = true :=
        (attributes_iff ann f e).2 ⟨hcounts, by omega, by omega, hvalid⟩
      have hfell : fellBack ann f e = false := Bool.eq_false_iff.2 fun h => by
        have := ((fellBack_iff ann f e).1 h).2
        omega
      have hx := releases_step hcounts (by omega)
      simp only [hattributes, hstep, Bool.true_and, decide_eq_true_eq] at hx
      exact hcounted hx hfell hattributes
    · have hattributes : attributes ann f e = false := Bool.eq_false_iff.2 fun h => by
        obtain ⟨-, -, hlow, -⟩ := (attributes_iff ann f e).1 h
        omega
      have hfell : fellBack ann f e = true := (fellBack_iff ann f e).2 ⟨hcounts, by omega⟩
      exact hcounted (releases_back hcounts (by omega)) hfell hattributes

theorem takeFrame_peer_own (ann : Half) (f : Frame) {v : PeerView} (hwf : Memory.wf Peer.never v.peers = true) :
    (v.takeFrame ann f).peer f.station.toNat = (v.peer f.station.toNat).afterFrame ann f := by
  rw [takeFrame_eq]
  exact memory_read_write_same hwf _ _

theorem takeFrame_peer_other (ann : Half) (f : Frame) (v : PeerView) {q : Nat} (h : q ≠ f.station.toNat) :
    (v.takeFrame ann f).peer q = v.peer q := by
  rw [takeFrame_eq]
  exact memory_read_write_other _ _ h

theorem takeFrame_intent (ann : Half) (f : Frame) (v : PeerView) : (v.takeFrame ann f).intent = v.intent := by
  rw [takeFrame_eq]

/-- The end of a burst: the pair is shown released unless the station has begun to send. -/
theorem burstEnds_eq (s : State) :
    burstEnds s = { s with cli := { s.cli with
      stuckTimer := if s.cli.sending.isSome then s.cli.stuckTimer else none
      releasedAt := if s.cli.sending.isSome then s.cli.releasedAt else some s.now } } := by
  unfold burstEnds
  split <;> rfl

theorem sendingBefore_eq_false {now : Nat} {c : CellLine} (h : c.sending = none ∨ c.lastSlot = some now) :
    sendingBefore now c = false := by
  rcases h with h | h <;> simp [sendingBefore, h]

end Sys2Proof.Machine

namespace Sys2Proof.Proofs

open Sys2Proof.Machine Sys2Proof.Statements

/-- Settles O50: a valid frame, through `takeFrame_counts` and `realigned_last`. -/
theorem validFrameTaken : Obligations.ValidFrameTaken := by
  intro t b s hmode hown hsending hform f k target hcell hother hwf
  have hexec : exec (.frameReceived t b) s = .next { s with
      now := max s.now t
      pva := s.pva.takeFrame s.prs.announced f
      cli := hearFrame s.cfg (max s.now t) f.station.toNat { s.cli with
        stuckTimer := if s.cli.sending.isSome then s.cli.stuckTimer else none
        releasedAt := if s.cli.sending.isSome then s.cli.releasedAt else some (max s.now t) }
      jp := if turnsForeign s.prs.announced f (s.pva.peer f.station.toNat) then flagged flagPlateForeign s.jp
        else s.jp } := by
    rw [exec_frameReceived_judged ((receives_iff _).2 hmode) (sendingBefore_eq_false hsending),
      judgeBurst_good hown (overStuck_eq_false hform) hform, burstEnds_eq]
    rw [judgeFrame_valid (by exact hcell) (by exact hother), takeValid_eq]
    rfl
  have hpeer := takeFrame_peer_own s.prs.announced f hwf
  obtain ⟨hforeign, hafresh, hstep⟩ := takeFrame_counts s.prs.announced f s.pva rfl hpeer.symm
  refine ⟨_, hexec, congrArg Peer.live hpeer, congrArg Peer.missed hpeer, congrArg Peer.head hpeer,
    congrArg Peer.zone hpeer, congrArg Peer.age hpeer,
    (congrArg Peer.last hpeer).trans (releases_last _ _ _),
    (Iff.of_eq (congrArg (· = true) (congrArg Peer.isForeign hpeer))).trans decide_eq_true_iff,
    fun q hq => takeFrame_peer_other _ _ _ hq,
    ⟨hforeign, hafresh, hstep, fun h => if_pos ?_, fun h => if_neg ?_⟩, takeFrame_intent _ _ _, rfl, rfl, rfl, rfl,
    rfl, rfl, fun hnoSlot => if_pos hnoSlot, fun hslot hstation => ?_⟩
  · exact (turnsForeign_iff _ _ _).2 h
  · exact fun hturns => h ((turnsForeign_iff _ _ _).1 hturns)
  · refine ⟨_, if_neg hslot, slots_between_pos hstation hcell hother, fun hlast => ?_, fun l hlast => ?_⟩
    · exact congrArg (realigned s.cfg s.cli.station f.station.toNat (max s.now t)) hlast
    · have hround := realigned_last (Nat.lt_of_le_of_lt (Nat.zero_le _) hcell) s.cli.station f.station.toNat
        (max s.now t) l
      rw [← hlast] at hround
      exact hround

end Sys2Proof.Proofs

/-! PROOFS. The record queue: how an update joins, how a write completes, and whom the completion serves (R178 to R184,
R189). -/

namespace Sys2Proof.Machine

open Sys2Proof.Statements

/-! ## Joining -/

theorem hasEntry_iff_exists (r : RecordStore) (word : Nat) :
    r.hasEntry word = true ↔ ∃ e ∈ r.queue, e.word = word := by
  simp [RecordStore.hasEntry]

theorem canJoin_iff (r : RecordStore) (word : Nat) :
    r.canJoin word = true ↔ r.hasEntry word = true ∨ r.queue.length < 8 := by
  rw [RecordStore.canJoin, Bool.or_eq_true, decide_eq_true_eq]
  exact Iff.rfl

theorem beginUpdate_nil {now : Nat} {r : RecordStore} (h : r.queue = []) :
    r.beginUpdate now = { r with stage := .none, retried := false, timer := none } := by
  unfold RecordStore.beginUpdate
  rw [h]

theorem beginUpdate_cons {now : Nat} {r : RecordStore} {e : QueueEntry} {rest : List QueueEntry}
    (h : r.queue = e :: rest) :
    r.beginUpdate now = { r with
      nv := Memory.write 0#16 e.word 0#16 r.nv, stage := .erase, writing := e.value, retried := false
      timer := some now } := by
  unfold RecordStore.beginUpdate
  rw [h]

theorem beginUpdate_feed (now : Nat) (r : RecordStore) : (r.beginUpdate now).feed = r.feed := by
  unfold RecordStore.beginUpdate
  split <;> rfl

theorem join_replaces {r : RecordStore} {word : Nat} (h : r.hasEntry word = true) (now : Nat) (v : Half)
    (mark : Bool) :
    r.join now word v mark = { r with queue := r.queue.map fun e =>
      if e.word = word then { word := word, value := v, mark := mark } else e } := by
  refine (if_pos h).trans ?_
  have hvalue (e : QueueEntry) : replaceValue word v mark e =
      if e.word = word then { word := word, value := v, mark := mark } else e := by
    unfold replaceValue
    split
    · next hword => rw [← hword]
    · rfl
  rw [funext hvalue]

theorem join_appends {r : RecordStore} {word : Nat} (h : r.hasEntry word = false) (hne : r.queue ≠ [])
    (hlen : r.queue.length < 8) (now : Nat) (v : Half) (mark : Bool) :
    r.join now word v mark = { r with queue := r.queue ++ [{ word := word, value := v, mark := mark }] } :=
  (if_neg (by rw [h]; decide)).trans ((if_pos hlen).trans (if_neg hne))

theorem hasEntry_of_empty {r : RecordStore} (h : r.queue = []) (word : Nat) : r.hasEntry word = false := by
  simp [RecordStore.hasEntry, h]

theorem join_begins {r : RecordStore} (h : r.queue = []) (now word : Nat) (v : Half) (mark : Bool) :
    r.join now word v mark = { r with
      queue := [{ word := word, value := v, mark := mark }], nv := Memory.write 0#16 word 0#16 r.nv
      stage := .erase, writing := v, retried := false, timer := some now } :=
  (if_neg (by rw [hasEntry_of_empty h]; decide)).trans ((if_pos (by rw [h]; decide)).trans (if_pos h))

theorem join_full {r : RecordStore} {word : Nat} (h : r.hasEntry word = false) (hlen : 8 ≤ r.queue.length)
    (now : Nat) (v : Half) (mark : Bool) : r.join now word v mark = r :=
  (if_neg (by rw [h]; decide)).trans (if_neg (Nat.not_lt.2 hlen))

theorem join_feed (now word : Nat) (v : Half) (mark : Bool) (r : RecordStore) :
    (r.join now word v mark).feed = r.feed := by
  unfold RecordStore.join
  split
  · rfl
  · split
    · split
      · exact beginUpdate_feed _ _
      · rfl
    · rfl

theorem join_announced (now word : Nat) (v : Half) (mark : Bool) (r : RecordStore) :
    (r.join now word v mark).announced = r.announced := by
  unfold RecordStore.join
  split
  · rfl
  · split
    · split
      · exact beginUpdate_announced _ _
      · rfl
    · rfl

/-! ## The end of a NEW_PLATE -/

theorem endNewPlate_ends {r : RecordStore} (hfeed : r.feed = some 65) (hmarks : ∀ x ∈ r.queue, x.mark = false) :
    r.endNewPlate = { r with feed := none } :=
  if_pos ⟨hfeed, by simpa using hmarks⟩

theorem endNewPlate_marked {r : RecordStore} (hmark : ∃ x ∈ r.queue, x.mark = true) : r.endNewPlate = r :=
  if_neg fun h => Bool.false_ne_true (h.2.symm.trans (List.any_eq_true.2 hmark))

theorem endNewPlate_feeding {r : RecordStore} (h : r.feed ≠ some 65) : r.endNewPlate = r := if_neg fun hend => h hend.1

theorem endNewPlate_idle {r : RecordStore} (h : r.feed = none) : r.endNewPlate = r :=
  endNewPlate_feeding (by rw [h]; decide)

/-- With all 65 updates offered there is nothing left to feed. -/
theorem feedAll_offered {now : Nat} {r : RecordStore} (h : r.feed = some 65) (n : Nat) : r.feedAll now n = r :=
  feedAll_stuck (by simp [RecordStore.feedOne, h, Config.newPlateUpdates]) n

/-! ## Whom a write completion serves -/

/-- No source waits for a freed place. -/
def Unserved (s : State) : Prop :=
  (∀ p, s.js.arm ≠ .waiting p false) ∧ ∀ u k, s.ps.activity ≠ .recordWait u k false

/-- What a write completion does after the head entry has left. -/
def freed (s : State) : State := (serveWaiting s).setPrs (serveWaiting s).prs.endNewPlate

theorem completeWrite_eq (s : State) : completeWrite s = freed { s with prs := s.prs.removeHead s.now } := rfl

theorem serveWaiting_unserved {s : State} (h : Unserved s) :
    serveWaiting s = { s with prs := s.prs.feedAll s.now 65 } := by
  obtain ⟨harm, hwait⟩ := h
  unfold serveWaiting
  split
  · next p hwaiting => exact absurd hwaiting (harm p)
  · next u k hrecord _ => exact absurd hrecord (hwait u k)
  · rfl

theorem freed_unserved {s : State} (h : Unserved s) :
    freed s = { s with prs := (s.prs.feedAll s.now 65).endNewPlate } := by
  rw [freed, serveWaiting_unserved h]
  rfl

theorem serveWaiting_arm {s : State} {p : Nat} (harm : s.js.arm = .waiting p false) :
    serveWaiting s = setArm (.waiting p true) (queueAbandoned p s) := by
  unfold serveWaiting
  rw [harm]

theorem freed_arm {s : State} {p : Nat} (harm : s.js.arm = .waiting p false) (hfeed : s.prs.feed = none) :
    freed s = { s with
      js := { s.js with arm := .waiting p true }
      prs := s.prs.join s.now p (recordWord .abandoned (s.js.part p).zone) false } := by
  have hend : (serveWaiting s).prs.endNewPlate = (serveWaiting s).prs := by
    rw [serveWaiting_arm harm]
    exact endNewPlate_idle ((join_feed _ _ _ _ _).trans hfeed)
  rw [freed, hend, serveWaiting_arm harm]
  rfl

theorem serveWaiting_record {s : State} {u : PartUpdate} {k : Follow} (harm : ∀ p, s.js.arm ≠ .waiting p false)
    (hwait : s.ps.activity = .recordWait u k false) :
    serveWaiting s = setActivity (.recordWait u k true) (noted u s) := by
  rw [← noteUpdate_queueUpdate]
  unfold serveWaiting
  split
  · next p hwaiting => exact absurd hwaiting (harm p)
  · next u' k' hrecord _ =>
    rw [hwait] at hrecord
    cases hrecord
    rfl
  · next h => exact absurd hwait (h u k)

theorem freed_record {s : State} {u : PartUpdate} {k : Follow} (harm : ∀ p, s.js.arm ≠ .waiting p false)
    (hwait : s.ps.activity = .recordWait u k false) (hfeed : s.prs.feed = none) :
    freed s = { noted u s with ps := { (noted u s).ps with activity := .recordWait u k true } } := by
  have hend : (serveWaiting s).prs.endNewPlate = (serveWaiting s).prs := by
    rw [serveWaiting_record harm hwait]
    exact endNewPlate_idle ((join_feed _ _ _ _ _).trans hfeed)
  rw [freed, hend, serveWaiting_record harm hwait]
  rfl

/-! ## The rows -/

theorem exec_eraseEnd {s : State} {e : QueueEntry} {rest : List QueueEntry} (hqueue : s.prs.queue = e :: rest)
    (hstage : s.prs.stage = .erase) :
    exec .eraseEnd s = .next { s with
      prs := { s.prs with stage := .write, writing := e.value, timer := some s.now } } := by
  show execEraseEnd s = _
  unfold execEraseEnd
  rw [hstage, hqueue]
  rfl

/-- The array as a write ends: the word holds what is read back. -/
def written (e : QueueEntry) (readBack : Half) (s : State) : State :=
  { s with prs := { s.prs with nv := Memory.write 0#16 e.word readBack s.prs.nv } }

theorem exec_writeEnd {s : State} {e : QueueEntry} {rest : List QueueEntry} (hqueue : s.prs.queue = e :: rest)
    (hstage : s.prs.stage = .write) (rb : Half) :
    exec (.writeEnd rb) s = .next (judgeWrite e rb (written e rb s)) := by
  show execWriteEnd rb s = _
  unfold execWriteEnd
  rw [hstage, hqueue]
  rfl

/-- The state after a read-back found right, or wrong for the second time, with the store as the head entry leaves it:
the second mismatch is a record fault (R180). -/
def readBackSettled (left : RecordStore) (rb : Half) (s : State) : State :=
  if rb = s.prs.writing then { s with prs := left }
  else { s with
    prs := left, jp := flagged flagRecordFault s.jp
    ps := { s.ps with marker := s.ps.marker || decide (s.ps.job = .running ∨ s.ps.job = .halted) } }

theorem readBackSettled_prs (left : RecordStore) (rb : Half) (s : State) : (readBackSettled left rb s).prs = left := by
  unfold readBackSettled
  split <;> rfl

theorem readBackSettled_now (left : RecordStore) (rb : Half) (s : State) : (readBackSettled left rb s).now = s.now := by
  unfold readBackSettled
  split <;> rfl

theorem readBackSettled_js (left : RecordStore) (rb : Half) (s : State) : (readBackSettled left rb s).js = s.js := by
  unfold readBackSettled
  split <;> rfl

theorem readBackSettled_activity (left : RecordStore) (rb : Half) (s : State) :
    (readBackSettled left rb s).ps.activity = s.ps.activity := by
  unfold readBackSettled
  split <;> rfl

theorem markFault_eq (s : State) :
    markFault s = { s with
      ps := { s.ps with marker := s.ps.marker || decide (s.ps.job = .running ∨ s.ps.job = .halted) } } := by
  unfold markFault
  split
  · next h => rw [decide_eq_true h, Bool.or_true]; rfl
  · next h => rw [decide_eq_false h, Bool.or_false]

theorem judgeWrite_replaced {e : QueueEntry} {rb : Half} {s : State} (h : e.value ≠ s.prs.writing) :
    judgeWrite e rb s = { s with prs := s.prs.beginUpdate s.now } := if_pos h

theorem judgeWrite_retries {e : QueueEntry} {rb : Half} {s : State} (hvalue : e.value = s.prs.writing)
    (hread : rb ≠ s.prs.writing) (hretried : s.prs.retried = false) :
    judgeWrite e rb s = { s with prs := retryUpdate s.now e.word s.prs } :=
  (if_neg (not_not.2 hvalue)).trans ((if_neg hread).trans (if_pos hretried))

theorem judgeWrite_settles {e : QueueEntry} {rb : Half} {s : State} (hvalue : e.value = s.prs.writing)
    (hdone : rb = s.prs.writing ∨ s.prs.retried = true) :
    judgeWrite e rb s = freed (readBackSettled (s.prs.removeHead s.now) rb s) := by
  refine (if_neg (not_not.2 hvalue)).trans ?_
  by_cases hread : rb = s.prs.writing
  · rw [if_pos hread, readBackSettled, if_pos hread]
    rfl
  · have hretried : ¬ s.prs.retried = false := by
      rw [hdone.resolve_left hread]
      decide
    rw [if_neg hread, if_neg hretried, readBackSettled, if_neg hread, markFault_eq]
    rfl

/-- The store as the settled update of the head entry leaves it, the next entry's update begun (R179). -/
def storeLeft (now : Nat) (nv : Memory Half) (rest : List QueueEntry) (r : RecordStore) : RecordStore :=
  match rest with
  | [] => { r with nv := nv, queue := [], stage := .none, retried := false, timer := none }
  | next :: _ => { r with
      nv := Memory.write 0#16 next.word 0#16 nv, queue := rest, stage := .erase, writing := next.value
      retried := false, timer := some now }

theorem removeHead_eq {now : Nat} {r : RecordStore} {e : QueueEntry} {rest : List QueueEntry}
    (h : r.queue = e :: rest) : r.removeHead now = storeLeft now r.nv rest r := by
  unfold RecordStore.removeHead
  rw [h]
  cases rest with
  | nil => rfl
  | cons next rest => rfl

/-- A write that settles: the head entry leaves, and its place is free. -/
theorem exec_writeEnd_settles {s : State} {e : QueueEntry} {rest : List QueueEntry} {rb : Half}
    (hqueue : s.prs.queue = e :: rest) (hstage : s.prs.stage = .write) (hvalue : e.value = s.prs.writing)
    (hdone : rb = s.prs.writing ∨ s.prs.retried = true) :
    exec (.writeEnd rb) s = .next (freed (readBackSettled
      (storeLeft s.now (Memory.write 0#16 e.word rb s.prs.nv) rest s.prs) rb s)) := by
  rw [exec_writeEnd hqueue hstage]
  rw [judgeWrite_settles (s := written e rb s) hvalue hdone]
  rw [removeHead_eq (r := (written e rb s).prs) hqueue]
  cases rest with
  | nil => rfl
  | cons next rest => rfl

theorem storeLeft_feed (now : Nat) (nv : Memory Half) (rest : List QueueEntry) (r : RecordStore) :
    (storeLeft now nv rest r).feed = r.feed := by
  unfold storeLeft
  split <;> rfl

theorem storeLeft_queue (now : Nat) (nv : Memory Half) (rest : List QueueEntry) (r : RecordStore) :
    (storeLeft now nv rest r).queue = rest := by
  unfold storeLeft
  split <;> rfl

theorem Unserved.readBackSettled {s : State} (h : Unserved s) (left : RecordStore) (rb : Half) :
    Unserved (readBackSettled left rb s) := by
  unfold Unserved
  rw [readBackSettled_js, readBackSettled_activity]
  exact h

end Sys2Proof.Machine

namespace Sys2Proof.Proofs

open Sys2Proof.Machine Sys2Proof.Statements

/-- Settles O53: the stages of an update, its last by whom the freed place serves. -/
theorem updateStages : Obligations.UpdateStages := by
  intro e rest s hqueue
  refine ⟨exec_eraseEnd hqueue, fun rb hstage => ?_⟩
  intro nv
  refine ⟨fun hvalue => ?_, fun hvalue hread hretried => ?_, fun hvalue hdone => ?_⟩
  · rw [exec_writeEnd hqueue hstage]
    rw [judgeWrite_replaced (s := written e rb s) hvalue, beginUpdate_cons (r := (written e rb s).prs) hqueue]
    rfl
  · rw [exec_writeEnd hqueue hstage]
    rw [judgeWrite_retries (s := written e rb s) hvalue hread hretried]
    rfl
  · intro left t unserved
    have hleft : left = storeLeft s.now nv rest s.prs := by cases rest <;> rfl
    have ht : t = readBackSettled left rb s := rfl
    have hprs : t.prs = left := readBackSettled_prs _ _ _
    have hjs : t.js = s.js := readBackSettled_js _ _ _
    have hnow : t.now = s.now := readBackSettled_now _ _ _
    have hactivity : t.ps.activity = s.ps.activity := readBackSettled_activity _ _ _
    have hfeed : t.prs.feed = s.prs.feed := by rw [hprs, hleft, storeLeft_feed]
    have hrest : t.prs.queue = rest := by rw [hprs, hleft, storeLeft_queue]
    have hexec : exec (.writeEnd rb) s = .next (freed t) := by
      rw [ht, hleft]
      exact exec_writeEnd_settles hqueue hstage hvalue hdone
    have hserved (hun : unserved) : Unserved t := Unserved.readBackSettled hun left rb
    refine ⟨fun hun hnone => ?_, fun p harm hnone => ?_, fun u k harm hwait hnone => ?_, fun hun hall hmark => ?_,
      fun hun hall hmarks => ?_⟩
    · rw [hexec, freed_unserved (hserved hun), feedAll_idle (hfeed.trans hnone), endNewPlate_idle (hfeed.trans hnone)]
    · rw [hexec, freed_arm (by rw [hjs]; exact harm) (hfeed.trans hnone), hjs, hnow, hprs]
    · rw [hexec, freed_record (by rw [hjs]; exact harm) (by rw [hactivity]; exact hwait) (hfeed.trans hnone)]
    · rw [hexec, freed_unserved (hserved hun), feedAll_offered (hfeed.trans hall),
        endNewPlate_marked (by rw [hrest]; exact hmark)]
    · rw [hexec, freed_unserved (hserved hun), feedAll_offered (hfeed.trans hall),
        endNewPlate_ends (hfeed.trans hall) (by rw [hrest]; exact hmarks), hprs]

end Sys2Proof.Proofs

/-! PROOFS. The feeding of NEW_PLATE, offer by offer, and the orders NEW_PLATE and WRITE_CONFIG (R156, R187 to R190). -/

namespace Sys2Proof.Machine

open Sys2Proof.Statements

/-! ## Offers -/

/-- The entry of NEW_PLATE's update number `j` (R189). -/
def plateEntry (arg : Half) (j : Nat) : QueueEntry :=
  { word := if j = 0 then 64 else j - 1, value := if j = 0 then arg else 0x0001#16, mark := true }

theorem newPlateUpdate_eq (arg : Half) (j : Nat) :
    newPlateUpdate arg j = ((plateEntry arg j).word, (plateEntry arg j).value) := by
  unfold newPlateUpdate plateEntry
  split <;> rfl

theorem plateEntry_word_inj {arg : Half} {i j : Nat} (hi : i < 65) (hj : j < 65)
    (h : (plateEntry arg i).word = (plateEntry arg j).word) : i = j := by
  unfold plateEntry at h
  dsimp only at h
  split at h <;> split at h <;> omega

/-- No entry stands for an update from number `k` on. -/
def FreeFrom (k : Nat) (r : RecordStore) : Prop :=
  ∀ j, k ≤ j → j < 65 → r.hasEntry (plateEntry r.plateArg j).word = false

theorem feedOne_joins {now k : Nat} {r : RecordStore} (hfeed : r.feed = some k) (hk : k < 65)
    (hjoin : r.canJoin (plateEntry r.plateArg k).word = true) :
    r.feedOne now = { r.join now (plateEntry r.plateArg k).word (plateEntry r.plateArg k).value true with
      feed := some (k + 1) } := by
  unfold RecordStore.feedOne
  rw [hfeed]
  dsimp only
  rw [newPlateUpdate_eq]
  exact if_pos ⟨hk, hjoin⟩

/-- An update for a word that stands nowhere joins the tail. -/
theorem feedOne_appends {now k : Nat} {r : RecordStore} (hfeed : r.feed = some k) (hk : k < 65)
    (hne : r.queue ≠ []) (hlen : r.queue.length < 8) (hfree : FreeFrom k r) :
    r.feedOne now = { r with queue := r.queue ++ [plateEntry r.plateArg k], feed := some (k + 1) } := by
  rw [feedOne_joins hfeed hk ((canJoin_iff _ _).2 (Or.inr hlen)), join_appends (hfree k (Nat.le_refl k) hk) hne hlen]
  rfl

/-- Feeding stops at a full queue, and when all updates have joined. -/
theorem feedOne_stops {now k : Nat} {r : RecordStore} (hfeed : r.feed = some k)
    (hstop : 8 ≤ r.queue.length ∨ 65 ≤ k) (hfree : FreeFrom k r) : r.feedOne now = r := by
  rcases Nat.lt_or_ge k 65 with hk | hk
  · refine feedOne_full hfeed (Bool.eq_false_iff.2 fun hjoin => ?_)
    rw [newPlateUpdate_eq, canJoin_iff, hfree k (Nat.le_refl k) hk] at hjoin
    exact hjoin.elim Bool.false_ne_true (fun hlen => by omega)
  · simp [RecordStore.feedOne, hfeed, Config.newPlateUpdates, Nat.not_lt.2 hk]

theorem freeFrom_append {k : Nat} {r : RecordStore} (hk : k < 65) (h : FreeFrom k r) (feed : Option Nat) :
    FreeFrom (k + 1) { r with queue := r.queue ++ [plateEntry r.plateArg k], feed := feed } := by
  intro j hkj hj
  refine Bool.eq_false_iff.2 fun hentry => ?_
  obtain ⟨e, he, hword⟩ := (hasEntry_iff_exists _ _).1 hentry
  rcases List.mem_append.1 he with he | he
  · have hold : r.hasEntry (plateEntry r.plateArg j).word = true := (hasEntry_iff_exists _ _).2 ⟨e, he, hword⟩
    rw [h j (by omega) hj] at hold
    exact Bool.false_ne_true hold
  · rw [List.mem_singleton.1 he] at hword
    have := plateEntry_word_inj hk hj hword
    omega

/-- With no word met twice the feeding fills the queue, or ends with the last update. -/
theorem feedAll_fills {now : Nat} (m : Nat) {k : Nat} {r : RecordStore} (hfeed : r.feed = some k) (hk : k ≤ 65)
    (hne : r.queue ≠ []) (hlen : r.queue.length ≤ 8) (hfree : FreeFrom k r) :
    r.feedAll now m = { r with
      queue := r.queue ++ (List.range' k (min m (min (8 - r.queue.length) (65 - k)))).map (plateEntry r.plateArg)
      feed := some (k + min m (min (8 - r.queue.length) (65 - k))) } := by
  induction m generalizing k r with
  | zero =>
    rw [Nat.zero_min, Nat.add_zero, ← hfeed]
    simp [RecordStore.feedAll]
  | succ m ih =>
    by_cases hstop : 8 ≤ r.queue.length ∨ 65 ≤ k
    · have hzero : min (8 - r.queue.length) (65 - k) = 0 := by omega
      rw [feedAll_stuck (feedOne_stops hfeed hstop hfree), hzero, Nat.min_zero, Nat.add_zero, ← hfeed]
      simp
    · rw [not_or, Nat.not_le, Nat.not_le] at hstop
      obtain ⟨hroom, hmore⟩ := hstop
      have hcount : min (m + 1) (min (8 - r.queue.length) (65 - k))
          = min m (min (8 - (r.queue.length + 1)) (65 - (k + 1))) + 1 := by omega
      rw [RecordStore.feedAll, feedOne_appends hfeed hmore hne hroom hfree, ih rfl (by omega) (by simp)
        (by rw [List.length_append]; simpa using hroom) (freeFrom_append hmore hfree _), hcount]
      simp only [List.length_append, List.length_singleton, List.append_assoc, List.singleton_append,
        List.range'_succ, List.map_cons]
      rw [show k + 1 + min m (min (8 - (r.queue.length + 1)) (65 - (k + 1)))
        = k + (min m (min (8 - (r.queue.length + 1)) (65 - (k + 1))) + 1) by omega]

theorem feedOne_announced (now : Nat) (r : RecordStore) : (r.feedOne now).announced = r.announced := by
  unfold RecordStore.feedOne
  split
  · rfl
  · split
    · exact join_announced _ _ _ _ _
    · rfl

theorem feedAll_announced (now n : Nat) (r : RecordStore) : (r.feedAll now n).announced = r.announced := by
  induction n generalizing r with
  | zero => rfl
  | succ n ih => rw [RecordStore.feedAll, ih, feedOne_announced]

theorem feedOne_feed_ne_none {now : Nat} {r : RecordStore} (h : r.feed ≠ none) : (r.feedOne now).feed ≠ none := by
  unfold RecordStore.feedOne
  split
  · exact h
  · split
    · exact Option.some_ne_none _
    · exact h

theorem feedAll_feed_ne_none {now : Nat} (n : Nat) {r : RecordStore} (h : r.feed ≠ none) :
    (r.feedAll now n).feed ≠ none := by
  induction n generalizing r with
  | zero => exact h
  | succ n ih => exact ih (feedOne_feed_ne_none h)

/-- Into an empty queue go the identity word, whose update begins, and the first seven part records. -/
theorem feedAll_from_empty {now : Nat} {r : RecordStore} (hfeed : r.feed = some 0) (hempty : r.queue = []) :
    r.feedAll now 65 = { r with
      queue := plateEntry r.plateArg 0 :: (List.range' 1 7).map (plateEntry r.plateArg)
      nv := Memory.write 0#16 64 0#16 r.nv, stage := .erase, writing := r.plateArg, retried := false
      timer := some now, feed := some 8 } := by
  have hfirst : r.feedOne now = { r with
      queue := [plateEntry r.plateArg 0], nv := Memory.write 0#16 64 0#16 r.nv, stage := .erase
      writing := r.plateArg, retried := false, timer := some now, feed := some 1 } := by
    rw [feedOne_joins hfeed (by decide) ((canJoin_iff _ _).2 (Or.inr (by rw [hempty]; decide))), join_begins hempty]
    rfl
  have hfree : FreeFrom 1 { r with
      queue := [plateEntry r.plateArg 0], nv := Memory.write 0#16 64 0#16 r.nv, stage := .erase
      writing := r.plateArg, retried := false, timer := some now, feed := some 1 } := by
    intro j hj hlast
    refine Bool.eq_false_iff.2 fun hentry => ?_
    obtain ⟨e, he, hword⟩ := (hasEntry_iff_exists _ _).1 hentry
    rw [List.mem_singleton.1 he] at hword
    have := plateEntry_word_inj (by decide) hlast hword
    omega
  exact (congrArg (RecordStore.feedAll now 64) hfirst).trans
    (feedAll_fills 64 rfl (by decide) (List.cons_ne_nil _ _) (Nat.le_add_left 1 7) hfree)

/-- An update whose word stands in the full queue replaces its entry, and the next finds no room. -/
theorem feedAll_replaces {now k : Nat} (m : Nat) {r : RecordStore} (hfeed : r.feed = some k) (hk : k < 65)
    (hentry : r.hasEntry (plateEntry r.plateArg k).word = true) (hlen : r.queue.length = 8)
    (hfree : FreeFrom (k + 1) r) :
    r.feedAll now (m + 1) = { r with
      queue := r.queue.map fun e => if e.word = (plateEntry r.plateArg k).word then plateEntry r.plateArg k else e
      feed := some (k + 1) } := by
  have hone : r.feedOne now = { r with
      queue := r.queue.map fun e => if e.word = (plateEntry r.plateArg k).word then plateEntry r.plateArg k else e
      feed := some (k + 1) } := by
    rw [feedOne_joins hfeed hk ((canJoin_iff _ _).2 (Or.inl hentry)), join_replaces hentry]
    rfl
  rw [RecordStore.feedAll, hone]
  refine feedAll_stuck (feedOne_stops rfl (Or.inl (by simp [hlen])) fun j hkj hj => ?_) m
  refine Bool.eq_false_iff.2 fun hstands => ?_
  obtain ⟨e', he', hword⟩ := (hasEntry_iff_exists _ _).1 hstands
  obtain ⟨e, he, hreplaced⟩ := List.mem_map.1 he'
  have hold : r.hasEntry (plateEntry r.plateArg j).word = true := by
    refine (hasEntry_iff_exists _ _).2 ⟨e, he, ?_⟩
    rw [← hword, ← hreplaced]
    split
    · next h => exact h
    · rfl
  rw [hfree j hkj hj] at hold
  exact Bool.false_ne_true hold

/-! ## The peers at a new identity -/

theorem newIdentity_eq (arg : Half) (e : Peer) : e.newIdentity arg = atIdentity arg e := rfl

theorem atIdentity_live (arg : Half) (e : Peer) : (atIdentity arg e).live = e.live := by
  unfold atIdentity
  split
  · rfl
  · split
    · rfl
    · split <;> rfl

theorem atIdentity_isForeign {arg : Half} {e : Peer} (h : e.live ≠ .never) :
    (atIdentity arg e).isForeign = true ↔ (atIdentity arg e).plate ≠ arg := by
  unfold atIdentity
  rw [if_neg h]
  split
  · next hplate => exact iff_of_true rfl hplate
  · next hplate =>
    split
    · exact iff_of_false Bool.false_ne_true hplate
    · next hforeign => exact iff_of_false hforeign hplate

theorem somePeerTurnsForeign_iff (arg : Half) (v : PeerView) :
    somePeerTurnsForeign arg v = true
      ↔ ∃ e ∈ v.peers, e.2.live ≠ .never ∧ e.2.plate ≠ arg ∧ e.2.isForeign = false := by
  simp only [somePeerTurnsForeign, List.any_eq_true, Bool.and_eq_true, decide_eq_true_eq, Bool.not_eq_true', and_assoc]

theorem beginNewPlate_eq (arg : Half) (s : State) :
    beginNewPlate arg s = { s with
      ps := { s.ps with ownCount := 0, lastRelease := none }
      pva := { s.pva with tally := [], peers := s.pva.peers.map fun e => (e.1, atIdentity arg e.2) }
      prs := RecordStore.feedAll s.now 65 { s.prs with announced := arg, plateArg := arg, feed := some 0 }
      jp := { s.jp with
        flags := if somePeerTurnsForeign arg s.pva then withFlag s.jp.flags flagPlateForeign else s.jp.flags } } := by
  unfold beginNewPlate
  dsimp only
  split
  · next h => rw [if_pos (by exact h)]; rfl
  · next h => rw [if_neg (by exact h)]; rfl

end Sys2Proof.Machine

namespace Sys2Proof.Proofs

open Sys2Proof.Machine Sys2Proof.Statements

/-- Settles O25: the feeding of NEW_PLATE, in its own row and at a write completion. -/
theorem feedGoesOn : Obligations.FeedGoesOn := by
  unfold Obligations.FeedGoesOn
  intro entry free
  refine ⟨fun now word v mark r => ⟨hasEntry_iff_exists r word, canJoin_iff r word,
    fun h => join_replaces h now v mark, fun h hne hlen => join_appends h hne hlen now v mark,
    fun h => join_begins h now word v mark, fun h hlen => join_full h hlen now v mark⟩,
    fun s => ⟨_, rfl, feedAll_announced _ _ _, fun h => feedAll_idle h _⟩, fun k s hfeed hk hne hlen hfree => ?_,
    fun k s hfeed hk hentry hlen hfree => ?_,
    fun k rb e next rest s hfeed hk hqueue hrest hstage hvalue hread hfree harm hwait => ?_⟩
  · have hfed := feedAll_fills (now := s.now) 65 hfeed hk hne hlen hfree
    rw [show min 65 (min (8 - s.prs.queue.length) (65 - k)) = min (8 - s.prs.queue.length) (65 - k) by omega] at hfed
    exact congrArg (fun r => Host.Outcome.next { s with prs := r }) hfed
  · exact congrArg (fun r => Host.Outcome.next { s with prs := r }) (feedAll_replaces 64 hfeed hk hentry hlen hfree)
  · let left := storeLeft s.now (Memory.write 0#16 e.word rb s.prs.nv) (next :: rest) s.prs
    have hleft : FreeFrom k left := fun j hkj hj => by
      refine Bool.eq_false_iff.2 fun hstands => ?_
      obtain ⟨x, hx, hword⟩ := (hasEntry_iff_exists _ _).1 hstands
      have hold : s.prs.hasEntry (plateEntry s.prs.plateArg j).word = true :=
        (hasEntry_iff_exists _ _).2 ⟨x, hqueue ▸ List.mem_cons_of_mem e hx, hword⟩
      exact Bool.false_ne_true ((hfree j hkj hj).symm.trans hold)
    have hlen : left.queue.length = 7 := congrArg (· + 1) hrest
    have hfed := feedAll_fills (now := s.now) 65 (r := left) hfeed hk.le (List.cons_ne_nil _ _) (by omega) hleft
    rw [show min 65 (min (8 - left.queue.length) (65 - k)) = 1 by omega] at hfed
    have hend : (left.feedAll s.now 65).endNewPlate = left.feedAll s.now 65 := by
      refine endNewPlate_marked ⟨plateEntry s.prs.plateArg k, ?_, rfl⟩
      rw [hfed]
      exact List.mem_append_right _ (List.mem_singleton.2 rfl)
    rw [exec_writeEnd_settles hqueue hstage hvalue (Or.inl hread), readBackSettled, if_pos hread,
      freed_unserved (s := { s with prs := left }) ⟨harm, hwait⟩]
    exact congrArg (fun r => Host.Outcome.next { s with prs := r }) (hend.trans hfed)

/-- Settles O26: WRITE_CONFIG by job state, index and room. -/
theorem writeConfigQueues : Obligations.WriteConfigQueues := by
  intro s ho idx
  have hbusy : s.ps.job = .arming → writeConfigRule (marked .order s) = (.refusedBusy, marked .order s) :=
    fun hjob => by
    unfold writeConfigRule
    rw [show (marked .order s).ps.job = .arming from hjob]
  have hstate (hjob : s.ps.job = .running ∨ s.ps.job = .halted) :
      writeConfigRule (marked .order s) = (.refusedState, marked .order s) := by
    unfold writeConfigRule
    rcases hjob with hjob | hjob <;> rw [show (marked .order s).ps.job = _ from hjob]
  refine ⟨fun hjob => ?_, fun hjob => ?_, fun hjob => ?_⟩
  · exact congrArg Host.Outcome.next (orderEdge_answeredOnly ho (hbusy hjob))
  · exact congrArg Host.Outcome.next (orderEdge_answeredOnly ho (hstate hjob))
  · have hrule : writeConfigRule (marked .order s) =
        if inRange 1 15 idx = false then (.refusedArg, marked .order s)
        else if s.prs.canJoin (64 + idx) = true then
          (.accepted, (marked .order s).setPrs
            (s.prs.join s.now (64 + idx) (s.jp.word.extractLsb' 0 16) false))
        else (.refusedBusy, marked .order s) := by
      unfold writeConfigRule
      rcases hjob with hjob | hjob | hjob <;> rw [show (marked .order s).ps.job = _ from hjob] <;> rfl
    refine congrArg Host.Outcome.next ?_
    split
    · next hidx =>
      exact orderEdge_answeredOnly ho (hrule.trans (if_pos ((inRange_eq_false_iff 1 15 idx).2 hidx)))
    · next hidx =>
      have hin : ¬ inRange 1 15 idx = false := fun h => hidx ((inRange_eq_false_iff 1 15 idx).1 h)
      split
      · next hjoin => exact orderEdge_answered ho (hrule.trans ((if_neg hin).trans (if_pos hjoin)))
      · next hjoin => exact orderEdge_answeredOnly ho (hrule.trans ((if_neg hin).trans (if_neg hjoin)))

/-- Settles O24: NEW_PLATE by job state and argument; accepted, its feeding is `feedAll_from_empty`. -/
theorem newPlateBegins : Obligations.NewPlateBegins := by
  intro s ho arg
  have hidle (hjob : s.ps.job = .disarmed ∨ s.ps.job = .done) : newPlateRule (marked .order s) =
      if s.prs.busy then (.refusedBusy, marked .order s)
      else if inRange 1 65534 (orderArg s.jp.word) then (.accepted, beginNewPlate arg (marked .order s))
      else (.refusedArg, marked .order s) := by
    unfold newPlateRule
    rcases hjob with hjob | hjob <;> rw [show (marked .order s).ps.job = _ from hjob] <;> rfl
  have hfree (hfeed : s.prs.feed = none) : ¬ s.prs.busy = true := by rw [RecordStore.busy, hfeed]; decide
  refine ⟨fun hjob => ?_, fun hjob => ?_, fun hjob hfeed => ?_, fun hjob hfeed harg => ?_,
    fun hjob hfeed hlow hhigh => ?_⟩
  · refine congrArg Host.Outcome.next (orderEdge_answeredOnly ho ?_)
    unfold newPlateRule
    rw [show (marked .order s).ps.job = .arming from hjob]
  · refine congrArg Host.Outcome.next (orderEdge_answeredOnly ho ?_)
    unfold newPlateRule
    rcases hjob with hjob | hjob | hjob <;> rw [show (marked .order s).ps.job = _ from hjob]
  · exact congrArg Host.Outcome.next
      (orderEdge_answeredOnly ho ((hidle hjob).trans (if_pos (Option.isSome_iff_ne_none.2 hfeed))))
  · exact congrArg Host.Outcome.next (orderEdge_answeredOnly ho ((hidle hjob).trans ((if_neg (hfree hfeed)).trans
      (if_neg fun h => harg ((inRange_eq_true_iff _ _ _).1 h)))))
  · have hedge := orderEdge_answered ho ((hidle hjob).trans ((if_neg (hfree hfeed)).trans
      (if_pos ((inRange_eq_true_iff _ _ _).2 ⟨hlow, hhigh⟩))))
    rw [beginNewPlate_eq] at hedge
    refine ⟨_, congrArg Host.Outcome.next hedge, rfl, feedAll_announced _ _ _,
      feedAll_feed_ne_none _ (Option.some_ne_none 0), rfl,
      fun hempty => ?_, rfl, rfl, rfl, fun e he hlive => ?_, rfl, ⟨fun hturns => ?_, fun hturns => ?_⟩, rfl, rfl, rfl,
      rfl, rfl⟩
    · have hfed := feedAll_from_empty (now := s.now)
        (r := { s.prs with announced := arg, plateArg := arg, feed := some 0 }) rfl hempty
      exact ⟨congrArg RecordStore.queue hfed, congrArg RecordStore.feed hfed, congrArg RecordStore.stage hfed,
        congrArg RecordStore.writing hfed, congrArg RecordStore.nv hfed⟩
    · obtain ⟨q, -, rfl⟩ := List.mem_map.1 he
      exact atIdentity_isForeign (by rwa [← atIdentity_live arg])
    · exact if_pos ((somePeerTurnsForeign_iff arg s.pva).2 hturns)
    · exact if_neg fun h => hturns ((somePeerTurnsForeign_iff arg s.pva).1 h)

end Sys2Proof.Proofs

/-! PROOFS. The own slot: what it does before the answer, which answer it forms, and what the line does with the frame
after it (R137, R138, R144 to R148, R154, R155, R168). -/

namespace Sys2Proof.Machine

open Sys2Proof.Statements

/-! ## Up to the answer -/

/-- The quiet count and its heard mark at an own slot, which SOLO keeps (R147). -/
def quietLine (c : CellLine) : CellLine :=
  { c with
      quiet := if c.mode = .solo then c.quiet else if c.heard then 0 else min 16 (c.quiet + 1)
      heard := if c.mode = .solo then c.heard else false }

/-- The own slot up to its answer: quiet count, LINE_LOST and ageing (R147, R155). -/
def slotStart (t : Nat) (s : State) : State :=
  { s with
      now := max s.now t
      cli := quietLine s.cli
      pva := { s.pva with peers := s.pva.peers.map fun e => (e.1, e.2.aged) }
      jp := { s.jp with flags := quietFlags s } }

theorem quietLine_of_not_solo {c : CellLine} (h : c.mode ≠ .solo) : quietLine c = quietStep c := by
  rw [quietLine, if_neg h, if_neg h]
  rfl

theorem reachesQuietLimit_iff (c : CellLine) :
    (c.quiet < Config.quietLimit ∧ (quietStep c).quiet = Config.quietLimit) ↔ c.heard = false ∧ c.quiet = 15 := by
  have hlimit : Config.quietLimit = 16 := rfl
  have hquiet : (quietStep c).quiet = if c.heard then 0 else min 16 (c.quiet + 1) := rfl
  rw [hquiet, hlimit]
  cases c.heard with
  | true => simp
  | false => simp; omega

theorem updateQuiet_eq (s : State) :
    updateQuiet s = { s with cli := quietLine s.cli, jp := { s.jp with flags := quietFlags s } } := by
  by_cases hsolo : s.cli.mode = .solo
  · rw [updateQuiet, if_pos hsolo, quietLine, if_pos hsolo, if_pos hsolo, quietFlags, if_neg fun h => h.1 hsolo]
  · rw [quietLine_of_not_solo hsolo]
    refine (if_neg hsolo).trans ?_
    by_cases hreaches : s.cli.heard = false ∧ s.cli.quiet = 15
    · have hflags : quietFlags s = withFlag s.jp.flags flagLineLost := if_pos ⟨hsolo, hreaches⟩
      rw [hflags]
      exact if_pos ((reachesQuietLimit_iff s.cli).2 hreaches)
    · have hflags : quietFlags s = s.jp.flags := if_neg fun h => hreaches h.2
      rw [hflags]
      exact if_neg (mt (reachesQuietLimit_iff s.cli).1 hreaches)

/-! ## From the answer on -/

/-- The line after the slot's frame is sent, or a collision counted in its place (R137, R145). -/
def sentLine (driven : Bool) (s : State) (c : CellLine) : CellLine :=
  if driven then collide c
  else { c with
    mode := .active, stuckTimer := none, releasedAt := none
    sending := some { frame := formFrame s, live := headWaits s.ps.head } }

/-- The line with the pair it finds driven (R146). -/
def drivenLine (driven : Bool) (now : Nat) (c : CellLine) : CellLine :=
  if driven = true ∧ receives c.mode = true then pairDriven now c else c

/-- The line after the slot, by its mode (R134, R136, R144, R145). -/
def slotLine (driven : Bool) (s : State) : CellLine :=
  let c := drivenLine driven s.now s.cli
  let c' := match s.cli.mode with
    | .off | .stuck | .solo | .noSlot => c
    | .listen =>
      if s.cli.listenLeft ≤ 1 then sentLine driven s { c with listenLeft := 0 }
      else { c with listenLeft := s.cli.listenLeft - 1 }
    | .active => sentLine driven s c
    | .backoff => { c with mode := .active }
  { c' with lastSlot := some s.now, nextSlot := some (s.now + s.cfg.cellSize * 128) }

/-- The own slot from its answer on. -/
def slotEnd (driven : Bool) (s : State) : State := nextRound (slotFrame driven (noteDriven driven s))

theorem exec_ownSlot_eq {s : State} (h : s.cli.mode ≠ .off) (t : Nat) (driven : Bool) :
    exec (.ownSlotArrival t driven) s = .next (slotEnd driven (answerSlot (slotStart t s))) := by
  refine (if_neg h).trans ?_
  rw [updateQuiet_eq]
  rfl

theorem drivenLine_mode (driven : Bool) (now : Nat) (c : CellLine) : (drivenLine driven now c).mode = c.mode := by
  unfold drivenLine
  split <;> rfl

theorem drivenLine_station (driven : Bool) (now : Nat) (c : CellLine) :
    (drivenLine driven now c).station = c.station := by
  unfold drivenLine
  split <;> rfl

theorem drivenLine_listenLeft (driven : Bool) (now : Nat) (c : CellLine) :
    (drivenLine driven now c).listenLeft = c.listenLeft := by
  unfold drivenLine
  split <;> rfl

theorem noteDriven_eq (driven : Bool) (s : State) :
    noteDriven driven s = { s with cli := drivenLine driven s.now s.cli } := by
  unfold noteDriven drivenLine
  split <;> rfl

theorem headWaits_iff (h : HeadState) : headWaits h = true ↔ h = .waitThread ∨ h = .waitRelease := decide_eq_true_iff

theorem intentAtSlot_silent {s : State} (h : ¬ (s.cli.mode = .solo ∨ s.cli.mode = .noSlot)) (now : Nat) :
    intentAtSlot now s = s.pva.intent := if_neg fun hc => h hc.1

theorem formFrame_cli {c : CellLine} {s : State} (h : c.station = s.cli.station) :
    formFrame { s with cli := c } = formFrame s := by
  unfold formFrame
  rw [show ({ s with cli := c } : State).cli.station = s.cli.station from h]
  rfl

theorem sendFrame_eq {driven : Bool} {c : CellLine} {s : State} (h : c.station = s.cli.station) :
    sendFrame driven { s with cli := c } = { s with cli := sentLine driven s c } := by
  unfold sendFrame sentLine
  split
  · rfl
  · rw [formFrame_cli h]
    rfl

/-- In SOLO and NO_SLOT the frame of a waiting head announces its intent without being sent (R150, R151). -/
theorem announced_unsent (s : State) (c : CellLine) (h : s.cli.mode = .solo ∨ s.cli.mode = .noSlot) :
    (if headWaits s.ps.head then announceIntent (formFrame { s with cli := c }).age.toNat { s with cli := c }
      else { s with cli := c })
      = { s with cli := c, pva := { s.pva with intent := intentAtSlot s.now s } } := by
  unfold intentAtSlot
  by_cases hwaits : s.ps.head = .waitThread ∨ s.ps.head = .waitRelease
  · have hage : (formFrame { s with cli := c }).age = BitVec.ofNat 4 s.pva.intent.ageToSend :=
      if_pos ((headWaits_iff _).2 hwaits)
    rw [if_pos ((headWaits_iff _).2 hwaits), if_pos ⟨h, hwaits⟩, hage]
    rfl
  · rw [if_neg (mt (headWaits_iff _).1 hwaits), if_neg fun hc => hwaits hc.2]

theorem slotEnd_eq (driven : Bool) (s : State) :
    slotEnd driven s = { s with
      cli := slotLine driven s, pva := { s.pva with intent := intentAtSlot s.now s } } := by
  have hmode := drivenLine_mode driven s.now s.cli
  have hstation := drivenLine_station driven s.now s.cli
  have hleft := drivenLine_listenLeft driven s.now s.cli
  unfold slotEnd slotLine slotFrame
  rw [noteDriven_eq]
  dsimp only
  rw [hmode]
  cases h : s.cli.mode with
  | off | stuck | backoff => rw [intentAtSlot_silent (by rw [h]; decide)]; rfl
  | active =>
    dsimp only
    rw [sendFrame_eq hstation, intentAtSlot_silent (by rw [h]; decide)]
    rfl
  | solo =>
    dsimp only
    rw [announced_unsent s _ (Or.inl h)]
    rfl
  | noSlot =>
    dsimp only
    rw [announced_unsent s _ (Or.inr h)]
    rfl
  | listen =>
    dsimp only
    rw [hleft, intentAtSlot_silent (by rw [h]; decide)]
    split
    · exact congrArg nextRound (sendFrame_eq (driven := driven) (s := s)
        (c := { drivenLine driven s.now s.cli with mode := .listen, listenLeft := 0 }) hstation)
    · rfl

/-! ## The line after the slot -/

/-- A frame is due in this slot: in ACTIVE, and in the slot that ends LISTEN (R137, R144). -/
def SendsAtSlot (c : CellLine) : Prop := c.mode = .active ∨ (c.mode = .listen ∧ c.listenLeft ≤ 1)

theorem drivenLine_sending (driven : Bool) (now : Nat) (c : CellLine) :
    (drivenLine driven now c).sending = c.sending := by
  unfold drivenLine
  split <;> rfl

theorem drivenLine_collision (driven : Bool) (now : Nat) (c : CellLine) :
    (drivenLine driven now c).collision = c.collision := by
  unfold drivenLine
  split <;> rfl

theorem drivenLine_quiet (driven : Bool) (now : Nat) (c : CellLine) : (drivenLine driven now c).quiet = c.quiet := by
  unfold drivenLine
  split <;> rfl

theorem slotLine_lastSlot (driven : Bool) (s : State) : (slotLine driven s).lastSlot = some s.now := rfl

theorem slotLine_nextSlot (driven : Bool) (s : State) :
    (slotLine driven s).nextSlot = some (s.now + s.cfg.cellSize * 128) := rfl

theorem sentLine_quiet (driven : Bool) (s : State) (c : CellLine) : (sentLine driven s c).quiet = c.quiet := by
  unfold sentLine
  split <;> rfl

theorem slotLine_quiet (driven : Bool) (s : State) : (slotLine driven s).quiet = s.cli.quiet := by
  rw [← drivenLine_quiet driven s.now s.cli]
  unfold slotLine
  cases s.cli.mode with
  | off | stuck | solo | noSlot | backoff => rfl
  | active => exact sentLine_quiet _ _ _
  | listen =>
    dsimp only
    split
    · exact sentLine_quiet _ _ _
    · rfl

/-- In a slot that sends, the line is what sending leaves. -/
theorem slotLine_sends {s : State} (h : SendsAtSlot s.cli) (driven : Bool) :
    ∃ c : CellLine, c.collision = s.cli.collision ∧ slotLine driven s
      = { sentLine driven s c with lastSlot := some s.now, nextSlot := some (s.now + s.cfg.cellSize * 128) } := by
  have hcollision := drivenLine_collision driven s.now s.cli
  unfold slotLine
  rcases h with hmode | ⟨hmode, hleft⟩
  · rw [hmode]
    exact ⟨_, hcollision, rfl⟩
  · rw [hmode]
    dsimp only
    rw [if_pos hleft]
    exact ⟨{ drivenLine driven s.now s.cli with listenLeft := 0 }, hcollision, rfl⟩

theorem slotLine_collides {s : State} (h : SendsAtSlot s.cli) :
    (slotLine true s).mode = .backoff ∧ (slotLine true s).collision = min 65535 (s.cli.collision + 1)
      ∧ (slotLine true s).sending = none := by
  obtain ⟨c, hcollision, hline⟩ := slotLine_sends h true
  rw [hline, ← hcollision]
  exact ⟨rfl, rfl, rfl⟩

theorem slotLine_forms {s : State} (h : SendsAtSlot s.cli) :
    (slotLine false s).mode = .active ∧ (slotLine false s).collision = s.cli.collision
      ∧ (slotLine false s).sending = some { frame := formFrame s, live := headWaits s.ps.head } := by
  obtain ⟨c, hcollision, hline⟩ := slotLine_sends h false
  rw [hline, ← hcollision]
  exact ⟨rfl, rfl, rfl⟩

theorem slotLine_silent {s : State} (h : ¬ SendsAtSlot s.cli) (driven : Bool) :
    (slotLine driven s).sending = s.cli.sending ∧ (slotLine driven s).collision = s.cli.collision := by
  have hsending := drivenLine_sending driven s.now s.cli
  have hcollision := drivenLine_collision driven s.now s.cli
  unfold slotLine
  cases hmode : s.cli.mode with
  | off | stuck | solo | noSlot | backoff => exact ⟨hsending, hcollision⟩
  | active => exact absurd (Or.inl hmode) h
  | listen =>
    have hleft : ¬ s.cli.listenLeft ≤ 1 := fun hleft => h (Or.inr ⟨hmode, hleft⟩)
    dsimp only
    rw [if_neg hleft]
    exact ⟨hsending, hcollision⟩

theorem slotLine_listens {s : State} (hmode : s.cli.mode = .listen) (hleft : 1 < s.cli.listenLeft) (driven : Bool) :
    (slotLine driven s).mode = .listen ∧ (slotLine driven s).listenLeft = s.cli.listenLeft - 1 := by
  have hkept := drivenLine_mode driven s.now s.cli
  unfold slotLine
  rw [hmode]
  dsimp only
  rw [if_neg (Nat.not_le.2 hleft)]
  exact ⟨hkept.trans hmode, rfl⟩

theorem slotLine_backoff {s : State} (hmode : s.cli.mode = .backoff) (driven : Bool) :
    (slotLine driven s).mode = .active := by
  unfold slotLine
  rw [hmode]

theorem slotLine_mode_stays {s : State} (h : s.cli.mode = .stuck ∨ s.cli.mode = .solo ∨ s.cli.mode = .noSlot)
    (driven : Bool) : (slotLine driven s).mode = s.cli.mode := by
  have hkept := drivenLine_mode driven s.now s.cli
  unfold slotLine
  rcases h with h | h | h <;> rw [h] <;> exact hkept.trans h

/-! ## The answer -/

theorem answerSlot_none {s : State} (h : s.pva.intent.lastAge = none) : answerSlot s = s := by
  unfold answerSlot slotAnswer
  rw [h]

theorem aged_never {e : Peer} (h : e.live = .never) : e.aged = e := if_pos h

theorem aged_heard {e : Peer} (h : e.live ≠ .never) (hheard : e.heard = true) :
    e.aged = { e with missed := 0, live := .fresh, heard := false } := (if_neg h).trans (if_pos hheard)

theorem aged_missed {e : Peer} (h : e.live ≠ .never) (hheard : e.heard = false) :
    e.aged = { e with
      missed := min 16 (e.missed + 1), live := livenessOf (min 16 (e.missed + 1)) } :=
  (if_neg h).trans (if_neg (by rw [hheard]; decide))

theorem announcedZone_of_current {s : State} {p : Nat} (h : s.ps.current = some p) :
    announcedZone s = (s.js.part p).zone := by
  rw [announcedZone, h]

theorem announcedZone_of_none {s : State} (h : s.ps.current = none) : announcedZone s = s.ps.takenZone := by
  rw [announcedZone, h]

end Sys2Proof.Machine

namespace Sys2Proof.Proofs

open Sys2Proof.Machine Sys2Proof.Statements

/-- Settles O45: the own slot with no intent announced, by `slotEnd_eq` and the line's mode. -/
theorem ownSlotSends : Obligations.OwnSlotSends := by
  refine ⟨fun e => ⟨aged_never, aged_heard, aged_missed⟩, fun t driven s hoff hintent => ?_⟩
  intro sends
  have hexec := exec_ownSlot_eq hoff t driven
  rw [answerSlot_none (s := slotStart t s) hintent, slotEnd_eq] at hexec
  have hsilent (h : ¬ sends) := slotLine_silent (s := slotStart t s) h driven
  refine ⟨_, hexec, rfl, rfl, rfl, rfl, rfl, slotLine_quiet _ _, rfl, fun h hdriven => ?_, fun h hdriven => ?_,
    hsilent, fun hmode hleft => slotLine_listens (s := slotStart t s) hmode hleft driven,
    fun hmode => slotLine_backoff (s := slotStart t s) hmode driven,
    fun hmode => slotLine_mode_stays (s := slotStart t s) hmode driven, rfl, rfl, rfl, rfl, rfl⟩
  · subst hdriven
    exact slotLine_collides (s := slotStart t s) h
  · subst hdriven
    obtain ⟨hactive, hcollision, hsending⟩ := slotLine_forms (s := slotStart t s) h
    refine ⟨hactive, hcollision, _, hsending, rfl, rfl, fun p hp => ?_, fun hp => ?_, ?_, rfl, rfl, rfl, rfl⟩
    · exact congrArg (BitVec.ofNat 6) (announcedZone_of_current (s := slotStart t s) hp)
    · exact congrArg (BitVec.ofNat 6) (announcedZone_of_none (s := slotStart t s) hp)
    · exact if_congr (headWaits_iff _) rfl rfl

end Sys2Proof.Proofs

/-! PROOFS. The thread decision, the answers the own slot forms, and a grant of the thread acted on (R148, R162, R163,
R167 to R170, R88, R114). -/

namespace Sys2Proof.Machine

open Sys2Proof.Statements

/-! ## The decision -/

theorem precedes_iff (s : State) (age : Nat) (e : Nat × Peer) :
    precedes s.cli.station age e.1 e.2 = true ↔ Ahead s age e := by
  unfold precedes Ahead
  simp only [Bool.or_eq_true, Bool.and_eq_true, decide_eq_true_eq]

theorem countsForJet_iff (s : State) (age : Nat) (e : Nat × Peer) :
    countsForJet s.cli.station age e = true ↔ (e.2.live = .fresh ∨ e.2.live = .stale)
      ∧ (e.2.head.toNat = headCode .threading ∨ (e.2.head.toNat = headCode .waitThread ∧ Ahead s age e)) := by
  unfold countsForJet
  simp only [Bool.or_eq_true, Bool.and_eq_true, decide_eq_true_eq, precedes_iff, heardLately_iff]

theorem threadDecision_eq (s : State) (age : Nat) (peers : Memory Peer) :
    threadDecision s age peers =
      if peers.countP (countsForJet s.cli.station age) < s.cfg.jetLimit
          ∧ ∀ e ∈ peers, e.2.near s.cfg.zx (announcedZone s) .releasing = false then .grant else .wait :=
  if_congr (and_congr Iff.rfl (by simp only [List.any_eq_false, Bool.not_eq_true])) rfl rfl

/-! ## The answer of the slot -/

theorem linkCondition_solo {c : CellLine} (h : c.mode = .solo) : linkCondition c = .solo := by
  rw [linkCondition, h]

theorem linkCondition_noSlot {c : CellLine} (h : c.mode = .noSlot) : linkCondition c = .noSlot := by
  rw [linkCondition, h]

theorem linkCondition_counted {c : CellLine} (hsolo : c.mode ≠ .solo) (hslot : c.mode ≠ .noSlot) :
    linkCondition c = if c.quiet = 16 then .lost else .good := by
  unfold linkCondition
  split
  · next h => exact absurd h hsolo
  · next h => exact absurd h hslot
  all_goals rfl

theorem linkDown_of_solo {c : CellLine} (h : c.mode = .solo) : linkDown c = false := by
  simp [linkDown, h]

theorem linkDown_of_noSlot {c : CellLine} (h : c.mode = .noSlot) : linkDown c = true := by
  simp [linkDown, h]

theorem linkDown_iff_counted {c : CellLine} (hsolo : c.mode ≠ .solo) (hslot : c.mode ≠ .noSlot) :
    linkDown c = true ↔ (quietLine c).quiet = 16 := by
  rw [quietLine, if_neg hsolo]
  cases hheard : c.heard with
  | true => simp [linkDown, hsolo, hslot, hheard]
  | false => simp [linkDown, hsolo, hslot, hheard]

/-- With the link LOST or in NO_SLOT the table is not asked (R148, R168). -/
theorem linkCondition_down {c : CellLine} (h : linkDown c = true) :
    linkCondition (quietLine c) = .lost ∨ linkCondition (quietLine c) = .noSlot := by
  by_cases hslot : c.mode = .noSlot
  · exact Or.inr (linkCondition_noSlot hslot)
  · have hsolo : c.mode ≠ .solo := fun hsolo => by
      rw [linkDown_of_solo hsolo] at h
      exact Bool.false_ne_true h
    refine Or.inl ?_
    rw [linkCondition_counted (c := quietLine c) hsolo hslot, if_pos ((linkDown_iff_counted hsolo hslot).1 h)]

theorem linkCondition_up {c : CellLine} (h : linkDown c = false) :
    linkCondition (quietLine c) = if c.mode = .solo then .solo else .good := by
  by_cases hsolo : c.mode = .solo
  · rw [if_pos hsolo]
    exact linkCondition_solo hsolo
  · have hslot : c.mode ≠ .noSlot := fun hslot => by
      rw [linkDown_of_noSlot hslot] at h
      exact Bool.false_ne_true h.symm
    have hquiet : (quietLine c).quiet ≠ 16 := fun hquiet => by
      rw [(linkDown_iff_counted hsolo hslot).2 hquiet] at h
      exact Bool.false_ne_true h.symm
    rw [if_neg hsolo, linkCondition_counted (c := quietLine c) hsolo hslot, if_neg hquiet]

/-- The answer to an announced thread intent (R168, R169). -/
theorem slotAnswer_thread {s : State} {age : Nat} (hkind : s.pva.intent.kind = .thread)
    (hage : s.pva.intent.lastAge = some age) (t : Nat) :
    slotAnswer (slotStart t s) = some (if linkDown s.cli then .wait
      else threadDecision (slotStart t s) age (if s.cli.mode = .solo then [] else (slotStart t s).pva.peers)) := by
  unfold slotAnswer
  rw [show (slotStart t s).pva.intent.lastAge = some age from hage,
    show (slotStart t s).pva.intent.kind = .thread from hkind, show (slotStart t s).cli = quietLine s.cli from rfl]
  cases hdown : linkDown s.cli with
  | true => rcases linkCondition_down hdown with h | h <;> rw [h] <;> rfl
  | false =>
    rw [linkCondition_up hdown]
    by_cases hsolo : s.cli.mode = .solo
    · rw [if_pos hsolo, if_pos hsolo]
      rfl
    · rw [if_neg hsolo, if_neg hsolo]
      rfl

/-- The answer to an announced release intent (R168, R170). -/
theorem slotAnswer_release {s : State} {age : Nat} (hkind : s.pva.intent.kind = .release)
    (hage : s.pva.intent.lastAge = some age) (t : Nat) :
    slotAnswer (slotStart t s) = some (if linkDown s.cli then
        (if budgetPasses (slotStart t s) (announcedZone s) = false then .denied
          else if releaseWaitOver (slotStart t s) then .expired else .wait)
      else releaseDecision (slotStart t s) age (if s.cli.mode = .solo then [] else (slotStart t s).pva.peers)) := by
  unfold slotAnswer
  rw [show (slotStart t s).pva.intent.lastAge = some age from hage,
    show (slotStart t s).pva.intent.kind = .release from hkind, show (slotStart t s).cli = quietLine s.cli from rfl]
  cases hdown : linkDown s.cli with
  | true => rcases linkCondition_down hdown with h | h <;> rw [h] <;> rfl
  | false =>
    rw [linkCondition_up hdown]
    by_cases hsolo : s.cli.mode = .solo
    · rw [if_pos hsolo, if_pos hsolo]
      rfl
    · rw [if_neg hsolo, if_neg hsolo]
      rfl

theorem answerSlot_some {s : State} {v : Verdict} (h : slotAnswer s = some v) : answerSlot s = actOnAnswer v s := by
  rw [answerSlot, h]

/-- The own slot in which an answer is formed. -/
theorem exec_ownSlot_answers {s : State} (hoff : s.cli.mode ≠ .off) {t : Nat} {v : Verdict}
    (h : slotAnswer (slotStart t s) = some v) (driven : Bool) :
    exec (.ownSlotArrival t driven) s = .next (slotEnd driven (actOnAnswer v (slotStart t s))) := by
  rw [exec_ownSlot_eq hoff, answerSlot_some h]

/-! ## Answers acted on -/

theorem actOnAnswer_wait (s : State) : actOnAnswer .wait s = s := rfl

theorem actOnAnswer_grantThread {s : State} {p : Purpose} (h : s.ps.activity = .waitThread p) :
    actOnAnswer .grant s = grantThread p s := by
  unfold actOnAnswer
  rw [h]

/-- The line once the own intent has ended: a frame on it no longer announces (R140, R166, log 30). -/
def unannounced (c : CellLine) : CellLine := { c with sending := c.sending.map fun x => { x with live := false } }

theorem endIntent_eq (s : State) :
    endIntent s = { s with pva := { s.pva with intent := Intent.empty }, cli := unannounced s.cli } := rfl

theorem grantThread_eq (p : Purpose) (s : State) :
    grantThread p s = { s with
      tu := unitStart (threadModeOf p) s.now s.tu
      ps := { s.ps with head := .threading, activity := .threading p }
      pva := { s.pva with intent := Intent.empty }, cli := unannounced s.cli } := rfl

theorem unitStart_idle {tu : ThreadUnit} (h : tu.stage = .idle) (m : ThreadMode) (now : Nat) :
    unitStart m now tu = { tu with stage := .sever, mode := m, failed := 0, timer := some now } := by
  rw [unitStart, h]

theorem unitStart_paused {tu : ThreadUnit} (h : tu.stage = .paused) (m : ThreadMode) (now : Nat) :
    unitStart m now tu = inStage .sever now tu := by
  rw [unitStart, h]
  rfl

theorem threadModeOf_eq (p : Purpose) :
    threadModeOf p = if p = .startHole ∨ p = .startHoleAgain then .startHole else .kerf := by
  cases p <;> rfl

theorem intentAtSlot_busy {s : State} (h : s.ps.head ≠ .waitThread ∧ s.ps.head ≠ .waitRelease) (now : Nat) :
    intentAtSlot now s = s.pva.intent := if_neg fun hc => hc.2.elim h.1 h.2

/-- The own slot that grants the thread. -/
theorem exec_ownSlot_grants {s : State} {p : Purpose} {age t : Nat} (hoff : s.cli.mode ≠ .off)
    (hactivity : s.ps.activity = .waitThread p) (hkind : s.pva.intent.kind = .thread)
    (hage : s.pva.intent.lastAge = some age)
    (hgrant : (if linkDown s.cli then Verdict.wait
      else threadDecision (slotStart t s) age (if s.cli.mode = .solo then [] else (slotStart t s).pva.peers)) = .grant)
    (driven : Bool) :
    exec (.ownSlotArrival t driven) s = .next { grantThread p (slotStart t s) with
      cli := slotLine driven (grantThread p (slotStart t s)) } := by
  rw [exec_ownSlot_answers hoff (slotAnswer_thread hkind hage t), hgrant,
    actOnAnswer_grantThread (s := slotStart t s) hactivity, slotEnd_eq,
    intentAtSlot_busy ⟨HeadState.noConfusion, HeadState.noConfusion⟩]

end Sys2Proof.Machine

namespace Sys2Proof.Proofs

open Sys2Proof.Machine Sys2Proof.Statements

/-- Settles O46: the thread decision, and the own slot that takes it. -/
theorem threadGranted : Obligations.ThreadGranted := by
  unfold Obligations.ThreadGranted
  intro mode
  refine ⟨fun s age e => ⟨countsForJet_iff s age e, fun zone h => near_iff _ zone h e.2,
    fun p => announcedZone_of_current, announcedZone_of_none⟩, threadDecision_eq,
    fun t p age s hactivity hkind hage hidle => ?_, fun t p age driven s hactivity hkind hage hoff => ?_⟩
  · intro started
    have hstarted (driven : Bool) : started { grantThread p (slotStart t s) with
        cli := slotLine driven (grantThread p (slotStart t s)) } := by
      have htu : (grantThread p (slotStart t s)).tu = _ := unitStart_idle (tu := s.tu) hidle
        (threadModeOf p) (max s.now t)
      refine ⟨congrArg ThreadUnit.stage htu, (congrArg ThreadUnit.mode htu).trans (threadModeOf_eq p),
        congrArg ThreadUnit.failed htu, rfl, rfl, rfl, rfl, rfl⟩
    refine ⟨fun hsolo hjet => ?_, fun hactive hheard hgrant => ?_⟩
    · have hgrant : (if linkDown s.cli then Verdict.wait
          else threadDecision (slotStart t s) age (if s.cli.mode = .solo then [] else (slotStart t s).pva.peers))
          = .grant := by
        rw [linkDown_of_solo hsolo, if_pos hsolo]
        exact if_pos (And.intro hjet rfl)
      refine ⟨_, exec_ownSlot_grants (by rw [hsolo]; decide) hactivity hkind hage hgrant false, hstarted false, ?_⟩
      have hquiet : ¬ SendsAtSlot (grantThread p (slotStart t s)).cli := by
        rintro (h | ⟨h, -⟩) <;> cases hsolo.symm.trans h
      exact (slotLine_silent hquiet false).1
    · have hgrant' : (if linkDown s.cli then Verdict.wait
          else threadDecision (slotStart t s) age (if s.cli.mode = .solo then [] else (slotStart t s).pva.peers))
          = .grant := by
        have hup : linkDown s.cli = false := by simp [linkDown, hactive, hheard]
        have hsolo : s.cli.mode ≠ .solo := by rw [hactive]; decide
        rw [hup, if_neg hsolo]
        exact hgrant
      obtain ⟨-, -, hsending⟩ := slotLine_forms (s := grantThread p (slotStart t s)) (Or.inl hactive)
      exact ⟨_, _, exec_ownSlot_grants (by rw [hactive]; decide) hactivity hkind hage hgrant' false, hstarted false,
        hsending, rfl, rfl⟩
  · intro v d
    refine ⟨fun hwait => ?_, fun hgrant hstage => ?_⟩
    · have hexec := exec_ownSlot_answers hoff (slotAnswer_thread hkind hage t) driven
      rw [show (if linkDown s.cli then Verdict.wait else threadDecision (slotStart t s) age
        (if s.cli.mode = .solo then [] else (slotStart t s).pva.peers)) = .wait from hwait, actOnAnswer_wait,
        slotEnd_eq] at hexec
      exact ⟨_, hexec, rfl, rfl, rfl, rfl, rfl, rfl, rfl⟩
    · refine ⟨_, exec_ownSlot_grants hoff hactivity hkind hage hgrant driven, ?_, rfl, rfl, rfl, rfl, rfl⟩
      rcases hstage with hstage | hstage
      · rw [if_neg (by rw [hstage]; decide)]
        show unitStart (threadModeOf p) (max s.now t) s.tu = _
        rw [unitStart_idle hstage, threadModeOf_eq]
      · rw [if_pos hstage]
        exact unitStart_paused hstage _ _

end Sys2Proof.Proofs

/-! PROOFS. The release decision, the load of the release pass, and the answers that hold, tab or defer a part (R35,
R121, R126, R162, R163, R168 to R171). -/

namespace Sys2Proof.Machine

open Sys2Proof.Statements

/-! ## The decision -/

theorem blocksRelease_iff (s : State) (age : Nat) (e : Nat × Peer) :
    blocksRelease s age e = true ↔ ShowsNear s.cfg.zx (announcedZone s) .threading e.2
      ∨ ShowsNear s.cfg.zx (announcedZone s) .releasing e.2
      ∨ (ShowsNear s.cfg.zx (announcedZone s) .waitRelease e.2 ∧ Ahead s age e) := by
  unfold blocksRelease
  simp only [Bool.or_eq_true, Bool.and_eq_true, near_iff, precedes_iff, or_assoc]

theorem budgetPasses_eq_false_iff (s : State) (zone : Nat) :
    budgetPasses s zone = false ↔ ¬ Memory.read 0 s.pva.tally zone + unattributed s.pva < s.cfg.dropLimit :=
  decide_eq_false_iff_not

theorem unattributed_eq (v : PeerView) : unattributed v = (v.peers.map fun e => unattributedOf e.2).sum := rfl

theorem releaseDecision_denied {s : State} (h : budgetPasses s (announcedZone s) = false) (age : Nat)
    (peers : Memory Peer) : releaseDecision s age peers = .denied := if_pos h

theorem releaseDecision_blocked {s : State} {age : Nat} {peers : Memory Peer}
    (h : ¬ budgetPasses s (announcedZone s) = false) (hblocks : ∃ e ∈ peers, blocksRelease s age e = true) :
    releaseDecision s age peers = if releaseWaitOver s then .expired else .wait :=
  (if_neg h).trans (if_pos (List.any_eq_true.2 hblocks))

theorem releaseDecision_free {s : State} {age : Nat} {peers : Memory Peer}
    (h : ¬ budgetPasses s (announcedZone s) = false) (hfree : ¬ ∃ e ∈ peers, blocksRelease s age e = true) :
    releaseDecision s age peers = .grant := (if_neg h).trans (if_neg (mt List.any_eq_true.1 hfree))

/-! ## The release pass -/

theorem getLsbD_markBit {b : Nat} (hb : b < 256) (m : Nat) : (1#256 <<< m).getLsbD b = decide (b = m) := by
  rw [← BitVec.twoPow_eq, BitVec.getLsbD_twoPow, ← Bool.decide_and, decide_eq_decide]
  omega

/-- The marks up to one of a part are fired, and no other (R35). -/
theorem getLsbD_fireThrough {b : Nat} (hb : b < 256) (fired : BitVec 256) (e : PartEntry) (m : Nat) :
    (fireThrough fired e m).getLsbD b
      = (fired.getLsbD b || decide (e.firstMark ≤ b ∧ b ≤ e.firstMark + m)) := by
  have hfold (n : Nat) :
      ((List.range n).foldl (fun f j => f ||| (1#256 <<< (e.firstMark + j))) fired).getLsbD b
        = (fired.getLsbD b || decide (e.firstMark ≤ b ∧ b < e.firstMark + n)) := by
    induction n with
    | zero => simp [show ¬ (e.firstMark ≤ b ∧ b < e.firstMark) by omega]
    | succ n ih =>
      rw [List.range_succ, List.foldl_concat, BitVec.getLsbD_or, ih, getLsbD_markBit hb, Bool.or_assoc,
        ← Bool.decide_or]
      congr 1
      rw [decide_eq_decide]
      omega
  rw [fireThrough, hfold]
  congr 1
  rw [decide_eq_decide]
  omega

theorem holdMark_eq {js : JobStore} {e : PartEntry} {h : Nat}
    (hfirst : FirstFrom 0 (fun m => m < e.markCount ∧ (js.mark (e.firstMark + m)).kind = markHold) h) :
    js.holdMark e = some h := by
  obtain ⟨-, ⟨hcount, hkind⟩, hleast⟩ := hfirst
  rw [JobStore.holdMark, List.find?_range_eq_some]
  refine ⟨decide_eq_true hkind, List.mem_range.2 hcount, fun m hm => ?_⟩
  rw [Bool.not_eq_true', decide_eq_false_iff_not]
  exact fun hheld => hleast m (Nat.zero_le m) hm ⟨hm.trans hcount, hheld⟩

theorem loadReleasePass_eq {s : State} {p h : Nat} (hp : s.ps.current = some p)
    (hmark : s.js.holdMark (s.js.part p) = some h) :
    loadReleasePass s = { s with
      pe := { s.pe with
        engine := .pass, passPart := p, passKind := .release, sub := some .run, remembered := none, awaiting := false
        stepTimer := some s.now
        seg := (s.js.mark ((s.js.part p).firstMark + h)).relSeg
        off := (s.js.mark ((s.js.part p).firstMark + h)).offset
        fired := fireThrough s.pe.fired (s.js.part p) h
        markPtr := firstUnfired (fireThrough s.pe.fired (s.js.part p) h) (s.js.part p) (h + 1) }
      eg := { primary := (s.js.part p).eprim, recovery := 0 }
      gc := { s.gc with mode := .feeding, halted := false, asked := false, limit := (s.js.part p).fmax, redo := []
                        stepTimer := none, stallTimer := none }
      ps := { s.ps with head := .releasing, activity := .passing } } := by
  unfold loadReleasePass
  rw [hp]
  dsimp only
  rw [hmark]
  rfl

/-! ## The answers acted on -/

theorem actOnAnswer_grantRelease {s : State} (h : s.ps.activity = .waitRelease) :
    actOnAnswer .grant s = loadReleasePass (endIntent s) := by
  unfold actOnAnswer
  rw [h]

theorem actOnAnswer_denied {s : State} {p : Nat} (h : s.ps.activity = .waitRelease) (hp : s.ps.current = some p) :
    actOnAnswer .denied s = settle (updateTo .held p s) .unthread .unthreading (endIntent s) := by
  unfold actOnAnswer onDenied
  rw [h, hp]
  rfl

theorem actOnAnswer_expiredRough {s : State} {p : Nat} (h : s.ps.activity = .waitRelease)
    (hp : s.ps.current = some p) (hphase : s.ps.phase ≠ .release) :
    actOnAnswer .expired s
      = settle { updateTo .tabbed p s with defer := true } .unthread .unthreading (endIntent s) := by
  unfold actOnAnswer onExpiredRough
  rw [h, hp]
  exact if_neg hphase

theorem actOnAnswer_expiredRelease {s : State} {p : Nat} (h : s.ps.activity = .waitRelease)
    (hp : s.ps.current = some p) (hphase : s.ps.phase = .release) (hstage : s.tu.stage = .threaded) :
    actOnAnswer .expired s =
      if s.ps.attempts.getD 0 + 1 < s.cfg.releaseAttempts then
        requestUnthread { endIntent s with
          ps := { s.ps with deferred := s.ps.deferred ++ [(p, s.ps.attempts.getD 0 + 1)] } }
      else settle (updateTo .held p s) .unthreadRunning .unthreading
        (showHead .unthreading { endIntent s with tu := unthreadingSince s.now s.tu }) := by
  have hunit : unitUnthread (endIntent s) = { endIntent s with tu := unthreadingSince s.now s.tu } := if_pos hstage
  have hthreaded : ¬ (endIntent s).tu.stage = .idle := by
    rw [show (endIntent s).tu.stage = .threaded from hstage]
    decide
  unfold actOnAnswer onExpiredRelease
  rw [h, hp]
  refine (if_pos hphase).trans ?_
  dsimp only
  rw [if_neg hthreaded, hunit]
  rfl

/-- The own slot in which an answer ends the wait. -/
theorem exec_ownSlot_acts {s y : State} {t : Nat} {v : Verdict} {driven : Bool} (hoff : s.cli.mode ≠ .off)
    (h : slotAnswer (slotStart t s) = some v) (hy : actOnAnswer v (slotStart t s) = y)
    (hhead : y.ps.head ≠ .waitThread ∧ y.ps.head ≠ .waitRelease) :
    exec (.ownSlotArrival t driven) s = .next { y with cli := slotLine driven y } := by
  rw [exec_ownSlot_answers hoff h, hy, slotEnd_eq, intentAtSlot_busy hhead]

/-- With no room the update waits with the head UNTHREADING (R116). -/
theorem settle_waits_unthreading {u : PartUpdate} {s : State} (hjob : s.ps.job = .running)
    (hfull : s.prs.canJoin u.part = false) (k : Follow) :
    settle u k .unthreading s
      = { s with ps := { s.ps with head := .unthreading, activity := .recordWait u k false } } := by
  rw [settle_waits hfull, showHead_of_running hjob]
  rfl

/-- An unthread already running is waited for (R116, log 11). -/
theorem followUp_unthreadRunning {s : State} (hjob : s.ps.job = .running) :
    followUp .unthreadRunning s = { s with ps := { s.ps with head := .unthreading, activity := .unthreading } } :=
  showHead_of_running (s := setActivity .unthreading s) hjob _

end Sys2Proof.Machine

namespace Sys2Proof.Proofs

open Sys2Proof.Machine Sys2Proof.Statements

/-- Settles O47: the release decision in its order, and the own slot that acts on it. -/
theorem releaseDecided : Obligations.ReleaseDecided := by
  unfold Obligations.ReleaseDecided
  refine ⟨fun s age peers => ?_, unattributed_eq, fun t p age s hactivity hp hkind hage hoff hjob hstage => ?_⟩
  · intro zone passes near blocks blocked
    have hbudget : budgetPasses s (announcedZone s) = false ↔ ¬ passes := budgetPasses_eq_false_iff s _
    have hblocked : (∃ e ∈ peers, blocksRelease s age e = true) ↔ blocked :=
      exists_congr fun e => and_congr_right fun _ => blocksRelease_iff s age e
    exact ⟨fun h => releaseDecision_denied (hbudget.2 h) age peers,
      fun h hb => releaseDecision_blocked (fun hf => hbudget.1 hf h) (hblocked.2 hb),
      fun h hb => releaseDecision_free (fun hf => hbudget.1 hf h) (mt hblocked.1 hb)⟩
  · intro e v spent d n flags unthreads waits
    have hspent : releaseWaitOver v = spent := by
      show releaseWaitOver v = match s.pva.intent.firstAt with
        | some f => decide (f + s.cfg.releaseWait * 100 * 2000 ≤ max s.now t)
        | none => false
      rw [releaseWaitOver, show v.pva.intent = s.pva.intent from rfl]
      cases s.pva.intent.firstAt <;> rfl
    have hd : slotAnswer (slotStart t s) = some d := by
      rw [slotAnswer_release hkind hage, announcedZone_of_current hp]
      rw [show releaseWaitOver (slotStart t s) = spent from hspent]
      refine congrArg some (if_congr Iff.rfl ?_ rfl)
      by_cases hpasses : Memory.read 0 s.pva.tally e.zone + unattributed v.pva < s.cfg.dropLimit
      · rw [if_pos hpasses]
        exact if_neg fun hfails => (budgetPasses_eq_false_iff (slotStart t s) e.zone).1 hfails hpasses
      · rw [if_neg hpasses]
        exact if_pos ((budgetPasses_eq_false_iff (slotStart t s) e.zone).2 hpasses)
    have hacts {x : Verdict} (hx : d = x) {y : State} (hy : actOnAnswer x (slotStart t s) = y)
        (hhead : y.ps.head ≠ .waitThread ∧ y.ps.head ≠ .waitRelease) :
        exec (.ownSlotArrival t false) s = .next { y with cli := slotLine false y } :=
      exec_ownSlot_acts hoff (hd.trans (congrArg some hx)) hy hhead
    have hunthreading : HeadState.unthreading ≠ .waitThread ∧ HeadState.unthreading ≠ .waitRelease := by decide
    refine ⟨hspent, fun hwait => ?_, fun h hgrant hfirst => ?_, fun hdenied hjoin => ?_, fun hdenied hfull => ?_,
      fun hexpired hphase hjoin => ?_, fun hexpired hphase hfull => ?_, fun hexpired hphase hmore => ?_,
      fun hexpired hphase hlast hjoin => ?_, fun hexpired hphase hlast hfull => ?_⟩
    · have hexec := exec_ownSlot_answers hoff (hd.trans (congrArg some hwait)) false
      rw [actOnAnswer_wait, slotEnd_eq] at hexec
      exact ⟨_, hexec, rfl, rfl, rfl, rfl, rfl⟩
    · have hload := loadReleasePass_eq (s := endIntent (slotStart t s)) hp (holdMark_eq hfirst)
      have hline (hactive : s.cli.mode = .active) :=
        slotLine_forms (s := loadReleasePass (endIntent (slotStart t s))) (by rw [hload]; exact Or.inl hactive)
      rw [hload] at hline
      have hy := (actOnAnswer_grantRelease (s := slotStart t s) hactivity).trans hload
      refine ⟨_, hacts hgrant hy ⟨HeadState.noConfusion, HeadState.noConfusion⟩, rfl, rfl, rfl, rfl, rfl, rfl, rfl,
        rfl, rfl, fun b hb => getLsbD_fireThrough hb _ _ _, pointsAtUnfired_firstUnfired _ _ _, rfl, rfl, rfl, rfl,
        rfl, rfl, rfl, rfl, fun hactive => ⟨_, (hline hactive).2.2, rfl, rfl⟩⟩
    · have hy := (actOnAnswer_denied (s := slotStart t s) hactivity hp).trans
        (settle_unthread_runs (u := updateTo .held p s) (s := endIntent (slotStart t s)) hjob hstage hjoin .unthreading)
      exact ⟨_, ⟨hacts hdenied hy hunthreading, rfl, rfl, rfl, rfl⟩, rfl, rfl, rfl⟩
    · have hy := (actOnAnswer_denied (s := slotStart t s) hactivity hp).trans
        (settle_waits_unthreading (u := updateTo .held p s) (s := endIntent (slotStart t s)) hjob hfull .unthread)
      exact ⟨_, hacts hdenied hy hunthreading, rfl, rfl, rfl, rfl⟩
    · have hy := (actOnAnswer_expiredRough (s := slotStart t s) hactivity hp hphase).trans
        (settle_unthread_runs (u := { updateTo .tabbed p s with defer := true }) (s := endIntent (slotStart t s)) hjob
          hstage hjoin .unthreading)
      exact ⟨_, ⟨hacts hexpired hy hunthreading, rfl, rfl, rfl, rfl⟩, rfl, rfl, rfl⟩
    · have hy := (actOnAnswer_expiredRough (s := slotStart t s) hactivity hp hphase).trans
        (settle_waits_unthreading (u := { updateTo .tabbed p s with defer := true }) (s := endIntent (slotStart t s))
          hjob hfull .unthread)
      exact ⟨_, hacts hexpired hy hunthreading, rfl, rfl, rfl, rfl⟩
    · have hy := (actOnAnswer_expiredRelease (s := slotStart t s) hactivity hp hphase hstage).trans (if_pos hmore)
      rw [requestUnthread_runs (by exact hjob) (by exact hstage)] at hy
      exact ⟨_, ⟨hacts hexpired hy hunthreading, rfl, rfl, rfl, rfl⟩, rfl, rfl, rfl⟩
    · have hy := (actOnAnswer_expiredRelease (s := slotStart t s) hactivity hp hphase hstage).trans
        (if_neg (Nat.not_lt.2 hlast))
      rw [showHead_of_running (by exact hjob), settle_joins (by exact hjoin), followUp_unthreadRunning (by exact hjob)]
        at hy
      exact ⟨_, ⟨hacts hexpired hy hunthreading, rfl, rfl, rfl, rfl⟩, rfl, rfl, rfl⟩
    · have hy := (actOnAnswer_expiredRelease (s := slotStart t s) hactivity hp hphase hstage).trans
        (if_neg (Nat.not_lt.2 hlast))
      rw [showHead_of_running (by exact hjob), settle_waits_unthreading (by exact hjob) (by exact hfull)] at hy
      exact ⟨_, hacts hexpired hy hunthreading, rfl, rfl, rfl, rfl⟩

end Sys2Proof.Proofs

/-! PROOFS. The record words, the reading of the part records at an ARM, and the rows that end it (R10, R18 to R20,
R177). -/

namespace Sys2Proof.Machine

open Sys2Proof.Statements

/-! ## Record words -/

theorem recCode_le (r : RecState) : recCode r ≤ 6 := by cases r <;> decide

theorem recordWord_toNat (r : RecState) {zone : Nat} (h : zone < 64) :
    (recordWord r zone).toNat = recCode r + 8 * zone := by
  have hcode := recCode_le r
  rw [recordWord, BitVec.toNat_ofNat]
  exact Nat.mod_eq_of_lt (by omega)

theorem toNat_extractLsb'_half (w : Half) (lo len : Nat) :
    (w.extractLsb' lo len).toNat = w.toNat / 2 ^ lo % 2 ^ len := by
  rw [BitVec.extractLsb'_toNat, Nat.shiftRight_eq_div_pow]

theorem recordZone_eq (w : Half) : recordZone w = w.toNat / 8 % 64 := toNat_extractLsb'_half w 3 6

/-- The state a code stands for: 1 to 6, and else UNKNOWN (R177). -/
def recOfCode : Nat → RecState
  | 1 => .uncut
  | 2 => .cutting
  | 3 => .tabbed
  | 4 => .released
  | 5 => .held
  | 6 => .abandoned
  | _ => .unknown

theorem recOfCode_eq_iff {r : RecState} (hr : r ≠ .unknown) {n : Nat} (hn : n < 8) :
    recOfCode n = r ↔ n = recCode r := by
  cases r with
  | unknown => exact absurd rfl hr
  | uncut | cutting | tabbed | released | held | abandoned => revert n; decide

theorem recOfCode_unknown_iff {n : Nat} (hn : n < 8) : recOfCode n = .unknown ↔ n = 0 ∨ n = 7 := by
  revert n
  decide

theorem recordState_eq (w : Half) :
    recordState w = if 512 ≤ w.toNat then .unknown else recOfCode (w.toNat % 8) := by
  have hlow : (w.extractLsb' 0 3).toNat = w.toNat % 8 := by
    rw [toNat_extractLsb'_half, Nat.pow_zero, Nat.div_one]
    rfl
  have hhigh : w.extractLsb' 9 7 ≠ 0#7 ↔ 512 ≤ w.toNat := by
    have hw := w.isLt
    rw [Ne, ← BitVec.toNat_inj, toNat_extractLsb'_half]
    simp only [BitVec.toNat_ofNat]
    omega
  unfold recordState
  rw [hlow]
  refine if_congr hhigh rfl ?_
  rfl

theorem recordState_eq_iff {r : RecState} (hr : r ≠ .unknown) (w : Half) :
    recordState w = r ↔ w.toNat < 512 ∧ w.toNat % 8 = recCode r := by
  rw [recordState_eq]
  split
  · next h => exact iff_of_false (Ne.symm hr) (fun hw => by omega)
  · next h =>
    rw [recOfCode_eq_iff hr (Nat.mod_lt _ (by decide))]
    exact (and_iff_right (Nat.not_le.1 h)).symm

theorem recordState_unknown_iff (w : Half) :
    recordState w = .unknown ↔ 512 ≤ w.toNat ∨ w.toNat % 8 = 0 ∨ w.toNat % 8 = 7 := by
  rw [recordState_eq]
  split
  · next h => exact iff_of_true rfl (Or.inl h)
  · next h => rw [recOfCode_unknown_iff (Nat.mod_lt _ (by decide)), or_iff_right h]

/-! ## The queue before the array -/

theorem queued_cons_same {e : QueueEntry} {i : Nat} (h : e.word = i) (r : RecordStore) :
    ({ r with queue := e :: r.queue } : RecordStore).queued i = some e.value := by
  simp [RecordStore.queued, h]

theorem queued_cons_other {e : QueueEntry} {i : Nat} (h : e.word ≠ i) (r : RecordStore) :
    ({ r with queue := e :: r.queue } : RecordStore).queued i = r.queued i := by
  simp [RecordStore.queued, h]

theorem queued_nil {r : RecordStore} (h : r.queue = []) (i : Nat) : r.queued i = none := by
  simp [RecordStore.queued, h]

/-! ## The reading of the records -/

theorem readRecords_cutting_joins {s : State} {i : Nat} (h : recordState (armWord s i) = .cutting)
    (hjoin : s.prs.canJoin i = true) (rest : List Nat) :
    readRecords (i :: rest) s = readRecords rest { s with
      ps := { s.ps with held := Memory.write Held.dropped i (.state .abandoned) s.ps.held }
      prs := s.prs.join s.now i (recordWord .abandoned (s.js.part i).zone) false } := by
  rw [readRecords, h]
  exact if_pos hjoin

theorem readRecords_cutting_waits {s : State} {i : Nat} (h : recordState (armWord s i) = .cutting)
    (hfull : s.prs.canJoin i = false) (rest : List Nat) :
    readRecords (i :: rest) s = { s with js := { s.js with arm := .waiting i false } } := by
  rw [readRecords, h]
  exact if_neg (by rw [hfull]; decide)

theorem readRecords_unknown {s : State} {i : Nat} (h : recordState (armWord s i) = .unknown) (rest : List Nat) :
    readRecords (i :: rest) s = readRecords rest { s with
      ps := { s.ps with held := Memory.write Held.dropped i .skipped s.ps.held }
      jp := flagged flagRecordUnknown s.jp } := by
  rw [readRecords, h]
  rfl

theorem readRecords_handed_on {s : State} {i : Nat} (hcutting : recordState (armWord s i) ≠ .cutting)
    (hunknown : recordState (armWord s i) ≠ .unknown) (rest : List Nat) :
    readRecords (i :: rest) s = readRecords rest (handOn i (.state (recordState (armWord s i))) s) := by
  rw [readRecords]
  cases h : recordState (armWord s i) with
  | cutting => exact absurd h hcutting
  | unknown => exact absurd h hunknown
  | uncut | tabbed | released | held | abandoned => rfl

/-- The edge that brought the order does not bear on the reading. -/
theorem readRecords_marked (m : PortMode) (is : List Nat) (s : State) :
    readRecords is (marked m s) = marked m (readRecords is s) := by
  induction is generalizing s with
  | nil => rfl
  | cons i rest ih =>
    by_cases hcutting : recordState (armWord s i) = .cutting
    · cases hjoin : s.prs.canJoin i with
      | true =>
        rw [readRecords_cutting_joins hcutting hjoin, ← ih]
        exact readRecords_cutting_joins (s := marked m s) hcutting hjoin rest
      | false =>
        rw [readRecords_cutting_waits hcutting hjoin]
        exact readRecords_cutting_waits (s := marked m s) hcutting hjoin rest
    · by_cases hunknown : recordState (armWord s i) = .unknown
      · rw [readRecords_unknown hunknown, ← ih]
        exact readRecords_unknown (s := marked m s) hunknown rest
      · rw [readRecords_handed_on hcutting hunknown, ← ih]
        exact readRecords_handed_on (s := marked m s) hcutting hunknown rest

theorem armChecked_marked (m : PortMode) (s : State) : armChecked (marked m s) = marked m (armChecked s) := rfl

/-- An ARM whose checks pass ends with the part records read (R10, R18). -/
theorem exec_arm_passes {s : State} (ho : OrderArrives orderArm s) (hjob : s.ps.job = .disarmed ∨ s.ps.job = .done)
    (hfeed : s.prs.feed = none) (hpass : (armOutcome s).2 = none) :
    exec .arm s = .next (answeredOnly .accepted
      (readRecords (List.range (armOutcome s).1.partCount) (armChecked s))) := by
  rw [exec_arm_accepted ho hjob hfeed, beginArm_of_passes (s := marked .order s) hpass, armChecked_marked,
    readRecords_marked, recordAnswer_marked]
  rfl

/-! ## The rows -/

theorem exec_armQueueWaitEnd {s : State} {p : Nat} {joined : Bool} (hjob : s.ps.job = .arming)
    (harm : s.js.arm = .waiting p joined) (hjoin : joined = true ∨ s.prs.canJoin p = true) :
    exec .armQueueWaitEnd s = .next (readRecords ((List.range s.js.partCount).drop (p + 1)) { s with
      ps := { s.ps with held := Memory.write Held.dropped p (.state .abandoned) s.ps.held }
      prs := if joined then s.prs
        else s.prs.join s.now p (recordWord .abandoned (s.js.part p).zone) false }) := by
  have hgoes : (joined || s.prs.canJoin p) = true := by rwa [Bool.or_eq_true]
  show execArmQueueWaitEnd s = _
  unfold execArmQueueWaitEnd
  rw [hjob, harm]
  dsimp only
  rw [if_pos hgoes]
  cases joined <;> rfl

end Sys2Proof.Machine

namespace Sys2Proof.Proofs

open Sys2Proof.Machine Sys2Proof.Statements

/-- Settles O16: the rows that end an ARM, and the reading of the part records. -/
theorem armEnds : Obligations.ArmEnds := by
  refine ⟨fun e idx s hjob harm => ?_, fun s hjob harm => if_pos ⟨hjob, harm⟩, fun p joined s hjob harm hjoin => ?_,
    fun s ho hjob hfeed => ?_, fun r zone w => ⟨by decide, recordWord_toNat r, recordZone_eq w,
      fun hr => recordState_eq_iff hr w, recordState_unknown_iff w⟩,
    fun e i r => ⟨fun h => queued_cons_same h r, fun h => queued_cons_other h r, fun h => queued_nil h i, rfl⟩,
    fun i rest s => ?_⟩
  · show execArmCheckFailed s = _
    unfold execArmCheckFailed
    rw [hjob, harm]
    rfl
  · intro read
    have hexec : exec .armQueueWaitEnd s = .next (readRecords ((List.range s.js.partCount).drop (p + 1)) read) :=
      exec_armQueueWaitEnd hjob harm hjoin
    refine ⟨hexec, fun hlast => ?_⟩
    rw [hexec, List.drop_eq_nil_of_le (by rwa [List.length_range])]
    rfl
  · intro c hpass
    exact ⟨_, exec_arm_passes ho hjob hfeed hpass, rfl⟩
  · intro w hand
    exact ⟨rfl, fun h hjoin => readRecords_cutting_joins h hjoin rest,
      fun h hfull => readRecords_cutting_waits h hfull rest, fun h => readRecords_unknown h rest,
      fun hc hu => readRecords_handed_on hc hu rest⟩

end Sys2Proof.Proofs

/-! PROOFS. The six checks of an ARM as the manual gives them: what each asks of a part, a segment, an arc and a mark,
and what the derived values hold when one fails (R10 to R17). -/

namespace Sys2Proof.Machine

open Sys2Proof.Statements

/-! ## Numbers -/

theorem isqrtFrom_spec (b : Nat) {n r : Nat} (hlow : r * r ≤ n) (hhigh : n < (r + 2 ^ b) * (r + 2 ^ b)) :
    isqrtFrom b n r * isqrtFrom b n r ≤ n ∧ n < (isqrtFrom b n r + 1) * (isqrtFrom b n r + 1) := by
  induction b generalizing r with
  | zero => exact ⟨hlow, hhigh⟩
  | succ b ih =>
    rw [isqrtFrom]
    split
    · next hle => exact ih hle (by rwa [Nat.add_assoc, ← Nat.two_mul, ← Nat.pow_succ'])
    · next hlt => exact ih hlow (Nat.not_le.1 hlt)

/-- The root that check 5 asks for, of any number it can meet (R15). -/
theorem isqrt_spec {n : Nat} (h : n < 2 ^ 64) : isqrt n * isqrt n ≤ n ∧ n < (isqrt n + 1) * (isqrt n + 1) :=
  isqrtFrom_spec 32 (Nat.zero_le n) h

theorem isqrt_unique {n r : Nat} (h : n < 2 ^ 64) (hlow : r * r ≤ n) (hhigh : n < (r + 1) * (r + 1)) :
    r = isqrt n := by
  obtain ⟨hlow', hhigh'⟩ := isqrt_spec h
  have hle : r < isqrt n + 1 := Nat.mul_self_lt_mul_self_iff.1 (hlow.trans_lt hhigh')
  have hge : isqrt n < r + 1 := Nat.mul_self_lt_mul_self_iff.1 (hlow'.trans_lt hhigh)
  omega

/-- Exactly one number below `n` has a property. -/
theorem countP_range_eq_one_iff (n : Nat) (ok : Nat → Bool) :
    (List.range n).countP ok = 1 ↔ ∃ m, m < n ∧ ∀ j, j < n → (ok j = true ↔ j = m) := by
  rw [List.countP_eq_length_filter, List.length_eq_one_iff]
  have hnodup : ((List.range n).filter ok).Nodup := List.nodup_range.filter ok
  constructor
  · rintro ⟨m, hm⟩
    have hmem (j : Nat) : (j < n ∧ ok j = true) ↔ j = m := by
      rw [← List.mem_range, ← List.mem_filter, hm, List.mem_singleton]
    exact ⟨m, ((hmem m).2 rfl).1, fun j hj => (and_iff_right hj).symm.trans (hmem j)⟩
  · rintro ⟨m, hm, hone⟩
    refine ⟨m, List.perm_singleton.1 ((List.perm_ext_iff_of_nodup hnodup (List.nodup_singleton m)).2 fun j => ?_)⟩
    rw [List.mem_filter, List.mem_range, List.mem_singleton]
    exact ⟨fun ⟨hj, hok⟩ => (hone j hj).1 hok, fun hj => hj ▸ ⟨hm, (hone m hm).2 rfl⟩⟩

theorem coord_bounds (w : Word) : -1048576 ≤ signedField w 0 21 ∧ signedField w 0 21 < 1048576 :=
  ⟨BitVec.le_toInt _, BitVec.toInt_lt⟩

theorem inEnvelope_iff (c : Params) (x y : Int) :
    inEnvelope c x y = true ↔ 0 ≤ x ∧ x ≤ (c.xmax * 1000 : Nat) ∧ 0 ≤ y ∧ y ≤ (c.ymax * 1000 : Nat) := by
  unfold inEnvelope
  simp only [Bool.and_eq_true, decide_eq_true_eq, and_assoc]

theorem disjoint_iff (f n g m : Nat) : disjoint f n g m = true ↔ f + n ≤ g ∨ g + m ≤ f := by
  unfold disjoint
  rw [Bool.or_eq_true, decide_eq_true_eq, decide_eq_true_eq]

/-! ## Check 2 -/

theorem checkPlate_good {stored : Nat} {js : JobStore} (hstored : stored ≠ 0) (hlow : 1 ≤ js.plate)
    (hhigh : js.plate ≤ 65534) (hsame : js.plate = stored) : checkPlate stored js = none :=
  (if_neg hstored).trans (if_pos (by
    rw [Bool.and_eq_true, inRange_eq_true_iff, decide_eq_true_eq]
    exact ⟨⟨hlow, hhigh⟩, hsame⟩))

theorem checkPlate_bad {stored : Nat} {js : JobStore} (hstored : stored ≠ 0)
    (h : ¬ (1 ≤ js.plate ∧ js.plate ≤ 65534 ∧ js.plate = stored)) :
    checkPlate stored js = some (.plateMismatch, 0) :=
  (if_neg hstored).trans (if_neg (by
    rw [Bool.and_eq_true, inRange_eq_true_iff, decide_eq_true_eq, and_assoc]
    exact h))

/-! ## Check 3 -/

theorem partPasses_iff (c : Params) (js : JobStore) (p : Nat) : partPasses c js p = true ↔ PartGood c js p := by
  have hholds := countP_range_eq_one_iff (js.part p).markCount
    fun m => decide ((js.mark ((js.part p).firstMark + m)).kind = markHold)
  simp only [decide_eq_true_eq] at hholds
  have hpolicy : inRange policyDrop policyTabHold (js.part p).policy = true ↔ (js.part p).policy ≤ 2 :=
    (inRange_eq_true_iff _ _ _).trans (and_iff_right (Nat.zero_le _))
  unfold partPasses PartGood
  simp only [Bool.and_eq_true, decide_eq_true_eq, List.all_eq_true, List.mem_range, disjoint_iff, hpolicy,
    inRange_eq_true_iff, inEnvelope_iff, holdCount, hholds, and_assoc]

theorem checkParts_fails {c : Params} {js : JobStore} {p : Nat} (hp : p < js.partCount) (hbad : ¬ PartGood c js p)
    (hbefore : ∀ q, q < p → PartGood c js q) : checkParts c js = some (.badPart, p) := by
  have hfind : (List.range js.partCount).find? (fun p => !partPasses c js p) = some p := by
    rw [List.find?_range_eq_some]
    refine ⟨?_, List.mem_range.2 hp, fun q hq => ?_⟩
    · rw [Bool.not_eq_true', ← Bool.not_eq_true, partPasses_iff]
      exact hbad
    · rw [Bool.not_not, partPasses_iff]
      exact hbefore q hq
  rw [checkParts, hfind]
  rfl

theorem checkParts_passes {c : Params} {js : JobStore} (h : ∀ p, p < js.partCount → PartGood c js p) :
    checkParts c js = none := by
  have hfind : (List.range js.partCount).find? (fun p => !partPasses c js p) = none := by
    rw [List.find?_eq_none]
    intro p hp
    rw [Bool.not_eq_true', Bool.not_eq_false, partPasses_iff]
    exact h p (List.mem_range.1 hp)
  rw [checkParts, hfind]
  rfl

/-! ## Check 4 -/

theorem lineOrArc_iff (kind : Nat) : kind = segLine ∨ kind = segArcCw ∨ kind = segArcCcw ↔ kind ≤ 2 := by
  simp only [segLine, segArcCw, segArcCcw]
  omega

theorem segmentPasses_iff (c : Params) (js : JobStore) (v : Nat × Nat) :
    segmentPasses c (js.segment ((js.part v.1).firstSeg + v.2)) (js.segStart (js.part v.1) v.2) = true
      ↔ SegmentGood c js v := by
  rw [segStart_eq]
  unfold segmentPasses SegmentGood
  simp only [Bool.and_eq_true, Bool.not_eq_true', Bool.and_eq_false_imp, decide_eq_true_eq, decide_eq_false_iff_not,
    lineOrArc_iff, inEnvelope_iff, and_assoc]

theorem lengthsOf_cons (js : JobStore) (v : Nat × Nat) (vs : List (Nat × Nat)) (lengths : Memory Nat) :
    lengthsOf js (v :: vs) lengths = lengthsOf js vs (Memory.write 0 ((js.part v.1).firstSeg + v.2)
      (manhattan (js.segStart (js.part v.1) v.2)
        ((js.segment ((js.part v.1).firstSeg + v.2)).endX, (js.segment ((js.part v.1).firstSeg + v.2)).endY))
      lengths) := by
  rw [segStart_eq]
  rfl

/-- Segments that pass have their lengths written, and the check goes on with the next. -/
theorem checkSegments_append {c : Params} {js : JobStore} {pre : List (Nat × Nat)}
    (hgood : ∀ v ∈ pre, SegmentGood c js v) (post : List (Nat × Nat)) (lengths : Memory Nat) :
    checkSegments c (pre ++ post) { js with lengths := lengths }
      = checkSegments c post { js with lengths := lengthsOf js pre lengths } := by
  induction pre generalizing lengths with
  | nil => rfl
  | cons v pre ih =>
    obtain ⟨hv, hpre⟩ := List.forall_mem_cons.1 hgood
    refine (if_pos ((segmentPasses_iff c js v).2 hv)).trans ((ih hpre _).trans ?_)
    rw [lengthsOf_cons]
    rfl

theorem checkSegments_fails {c : Params} {js : JobStore} {v : Nat × Nat} (hbad : ¬ SegmentGood c js v)
    (post : List (Nat × Nat)) (lengths : Memory Nat) :
    checkSegments c (v :: post) { js with lengths := lengths }
      = ({ js with lengths := lengths }, some (.badSegment, (js.part v.1).firstSeg + v.2)) :=
  if_neg (mt (segmentPasses_iff c js v).1 hbad)

/-- The store after check 4 has passed: every segment's length stands (R14). -/
def measuredStore (js : JobStore) : JobStore := { js with lengths := lengthsOf js (segmentVisits js) js.lengths }

theorem checkSegments_passes {c : Params} {js : JobStore} (hgood : ∀ v ∈ segmentVisits js, SegmentGood c js v) :
    checkSegments c (segmentVisits js) js = (measuredStore js, none) := by
  have h := checkSegments_append hgood [] js.lengths
  rw [List.append_nil] at h
  exact h

theorem checkSegments_first_fails {c : Params} {js : JobStore} {pre post : List (Nat × Nat)} {v : Nat × Nat}
    (hvisits : segmentVisits js = pre ++ v :: post) (hgood : ∀ w ∈ pre, SegmentGood c js w)
    (hbad : ¬ SegmentGood c js v) :
    checkSegments c (segmentVisits js) js = ({ js with lengths := lengthsOf js pre js.lengths },
      some (.badSegment, (js.part v.1).firstSeg + v.2)) := by
  rw [hvisits]
  exact (checkSegments_append hgood (v :: post) js.lengths).trans (checkSegments_fails hbad post _)

/-! ## Check 5 -/

theorem oppositeSigns_eq_false_iff (a b : Int) : oppositeSigns a b = false ↔ 0 ≤ a * b := by
  rw [oppositeSigns, ← Bool.decide_or, decide_eq_false_iff_not, ← Int.not_lt, mul_neg_iff]

/-- The squared radius of an arc, whose coordinates have 21 bits. -/
theorem arcRadius_bounds {js : JobStore} (v : Nat × Nat) :
    let us := (startOf js v.1 v.2).1 - (js.segment ((js.part v.1).firstSeg + v.2)).cenX
    let vs := (startOf js v.1 v.2).2 - (js.segment ((js.part v.1).firstSeg + v.2)).cenY
    0 ≤ us * us + vs * vs ∧ us * us + vs * vs < 2 ^ 64 := by
  intro us vs
  have hstart : (-1048576 ≤ (startOf js v.1 v.2).1 ∧ (startOf js v.1 v.2).1 < 1048576)
      ∧ -1048576 ≤ (startOf js v.1 v.2).2 ∧ (startOf js v.1 v.2).2 < 1048576 := by
    unfold startOf
    dsimp only
    split <;> exact ⟨coord_bounds _, coord_bounds _⟩
  obtain ⟨⟨hx, hx'⟩, hy, hy'⟩ := hstart
  obtain ⟨hcx, hcx'⟩ : -1048576 ≤ (js.segment ((js.part v.1).firstSeg + v.2)).cenX
      ∧ (js.segment ((js.part v.1).firstSeg + v.2)).cenX < 1048576 := coord_bounds _
  obtain ⟨hcy, hcy'⟩ : -1048576 ≤ (js.segment ((js.part v.1).firstSeg + v.2)).cenY
      ∧ (js.segment ((js.part v.1).firstSeg + v.2)).cenY < 1048576 := coord_bounds _
  have hus : us * us ≤ 2097152 * 2097152 := by
    have : |us| ≤ 2097152 := abs_le.2 ⟨by omega, by omega⟩
    calc us * us = |us| * |us| := (abs_mul_abs_self us).symm
      _ ≤ 2097152 * 2097152 := mul_self_le_mul_self (abs_nonneg us) this
  have hvs : vs * vs ≤ 2097152 * 2097152 := by
    have : |vs| ≤ 2097152 := abs_le.2 ⟨by omega, by omega⟩
    calc vs * vs = |vs| * |vs| := (abs_mul_abs_self vs).symm
      _ ≤ 2097152 * 2097152 := mul_self_le_mul_self (abs_nonneg vs) this
  exact ⟨add_nonneg (mul_self_nonneg us) (mul_self_nonneg vs), by omega⟩

/-- The circle's tolerance, by the root of the squared radius or by any root there is (R15). -/
theorem onCircle_iff {rr d : Int} (hlow : 0 ≤ rr) (hhigh : rr < 2 ^ 64) :
    d.natAbs ≤ 2 * isqrt rr.toNat + 1
      ↔ ∃ r : Nat, (r * r : Nat) ≤ rr ∧ rr < ((r + 1) * (r + 1) : Nat) ∧ d.natAbs ≤ 2 * r + 1 := by
  lift rr to Nat using hlow
  have hn : rr < 2 ^ 64 := by exact_mod_cast hhigh
  rw [Int.toNat_natCast]
  constructor
  · intro h
    obtain ⟨hr, hr'⟩ := isqrt_spec hn
    exact ⟨isqrt rr, Int.ofNat_le.2 hr, Int.ofNat_lt.2 hr', h⟩
  · rintro ⟨r, hr, hr', h⟩
    rwa [← isqrt_unique hn (Int.ofNat_le.1 hr) (Int.ofNat_lt.1 hr')]

theorem arcTurn_iff {kind : Nat} (hkind : kind = segArcCw ∨ kind = segArcCcw) (turn : Int) :
    (if kind = segArcCcw then decide (0 < turn) else decide (turn < 0)) = true
      ↔ (kind = segArcCcw → 0 < turn) ∧ (kind = segArcCw → turn < 0) := by
  rcases hkind with rfl | rfl <;> simp [segArcCw, segArcCcw]

theorem arcPasses_iff {js : JobStore} {v : Nat × Nat}
    (hkind : (js.segment ((js.part v.1).firstSeg + v.2)).kind = segArcCw
      ∨ (js.segment ((js.part v.1).firstSeg + v.2)).kind = segArcCcw) :
    arcPasses (js.segment ((js.part v.1).firstSeg + v.2)) (js.segStart (js.part v.1) v.2) = true ↔ ArcGood js v := by
  obtain ⟨hlow, hhigh⟩ := arcRadius_bounds (js := js) v
  have hlimit (x : Int) : x.natAbs ≤ Config.coordLimit.toNat ↔ -1048575 ≤ x ∧ x ≤ 1048575 := by
    rw [show Config.coordLimit.toNat = 1048575 from rfl]
    omega
  rw [segStart_eq]
  unfold arcPasses ArcGood
  simp only [Bool.and_eq_true, Bool.not_eq_true', decide_eq_true_eq, oppositeSigns_eq_false_iff, hlimit,
    arcTurn_iff hkind, onCircle_iff hlow hhigh, and_assoc]

theorem arcFails_iff {js : JobStore} {v : Nat × Nat} (h : (js.segment ((js.part v.1).firstSeg + v.2)).kind ≤ 2) :
    arcFails js v = true ↔ ¬ ((js.segment ((js.part v.1).firstSeg + v.2)).kind ≠ segLine → ArcGood js v) := by
  have hkinds := (lineOrArc_iff _).2 h
  unfold arcFails
  rw [Bool.and_eq_true, Bool.not_eq_true', decide_eq_true_eq, Classical.not_imp]
  constructor
  · rintro ⟨hkind, hfails⟩
    refine ⟨fun hline => ?_, fun hgood => ?_⟩
    · rw [hline] at hkind
      exact absurd hkind (by decide)
    · rw [(arcPasses_iff hkind).2 hgood] at hfails
      exact Bool.false_ne_true hfails.symm
  · rintro ⟨hline, hbad⟩
    have hkind := hkinds.resolve_left hline
    exact ⟨hkind, Bool.eq_false_iff.2 (mt (arcPasses_iff hkind).1 hbad)⟩

theorem checkArcs_fails {js : JobStore} {pre post : List (Nat × Nat)} {v : Nat × Nat}
    (hvisits : segmentVisits js = pre ++ v :: post) (hbefore : ∀ w ∈ pre, ¬ arcFails js w = true)
    (hfails : arcFails js v = true) : checkArcs js = some (.badArc, (js.part v.1).firstSeg + v.2) := by
  have hfind : (segmentVisits js).find? (arcFails js) = some v := by
    rw [List.find?_eq_some_iff_append]
    exact ⟨hfails, pre, post, hvisits, fun w hw => by simpa using hbefore w hw⟩
  rw [checkArcs, hfind]
  rfl

theorem checkArcs_passes {js : JobStore} (h : ∀ v ∈ segmentVisits js, ¬ arcFails js v = true) :
    checkArcs js = none := by
  rw [checkArcs, List.find?_eq_none.2 h]
  rfl

/-! ## Check 6 -/

theorem previousProgress_eq (js : JobStore) (p m : Nat) :
    previousProgress js (js.part p) m = if m = 0 then 0 else countOf js p (m - 1) := by
  cases m with
  | zero => rfl
  | succ m => exact (if_neg (Nat.succ_ne_zero m)).symm

theorem markPasses_iff (js : JobStore) (v : Nat × Nat) :
    markPasses js (js.part v.1) v.2 = true ↔ MarkGood js v := by
  have hkinds (mk : MarkEntry) :
      ((mk.kind = markHold ∨ mk.kind = markEnergy ∧ 1 ≤ mk.value ∧ mk.value ≤ 15)
          ∨ mk.kind = markFeed ∧ 1 ≤ mk.value ∧ mk.value ≤ 60000)
        ↔ mk.kind ≤ 2 ∧ (mk.kind = markEnergy → 1 ≤ mk.value ∧ mk.value ≤ 15)
          ∧ (mk.kind = markFeed → 1 ≤ mk.value ∧ mk.value ≤ 60000) := by
    simp only [markHold, markEnergy, markFeed]
    omega
  unfold markPasses MarkGood
  simp only [Bool.and_eq_true, Bool.or_eq_true, decide_eq_true_eq, inRange_eq_true_iff, hkinds, previousProgress_eq,
    and_assoc]
  exact Iff.rfl

/-- Marks that pass leave the hold positions of the HOLD marks, and the check goes on with the next. -/
theorem checkMarks_append {js : JobStore} {pre : List (Nat × Nat)} (hgood : ∀ v ∈ pre, MarkGood js v)
    (post : List (Nat × Nat)) (holds : Memory (Int × Int)) :
    checkMarks (pre ++ post) { js with holds := holds }
      = checkMarks post { js with holds := holdsOf js pre holds } := by
  induction pre generalizing holds with
  | nil => rfl
  | cons v pre ih =>
    obtain ⟨hv, hpre⟩ := List.forall_mem_cons.1 hgood
    refine (if_pos ((markPasses_iff js v).2 hv)).trans ?_
    by_cases hkind : (js.mark ((js.part v.1).firstMark + v.2)).kind = markHold
    · rw [holdsOf, List.foldl_cons, if_pos hkind, ← segStart_eq]
      exact (congrArg _ (if_pos hkind)).trans (ih hpre _)
    · rw [holdsOf, List.foldl_cons, if_neg hkind]
      exact (congrArg _ (if_neg hkind)).trans (ih hpre _)

theorem checkMarks_fails {js : JobStore} {v : Nat × Nat} (hbad : ¬ MarkGood js v) (post : List (Nat × Nat))
    (holds : Memory (Int × Int)) :
    checkMarks (v :: post) { js with holds := holds }
      = ({ js with holds := holds }, some (.badMark, (js.part v.1).firstMark + v.2)) :=
  if_neg (mt (markPasses_iff js v).1 hbad)

theorem checkMarks_passes {js : JobStore} (hgood : ∀ v ∈ markVisits js, MarkGood js v) :
    checkMarks (markVisits js) js = ({ js with holds := holdsOf js (markVisits js) js.holds }, none) := by
  have h := checkMarks_append hgood [] js.holds
  rw [List.append_nil] at h
  exact h

theorem checkMarks_first_fails {js : JobStore} {pre post : List (Nat × Nat)} {v : Nat × Nat}
    (hvisits : markVisits js = pre ++ v :: post) (hgood : ∀ w ∈ pre, MarkGood js w) (hbad : ¬ MarkGood js v) :
    checkMarks (markVisits js) js = ({ js with holds := holdsOf js pre js.holds },
      some (.badMark, (js.part v.1).firstMark + v.2)) := by
  rw [hvisits]
  exact (checkMarks_append hgood (v :: post) js.holds).trans (checkMarks_fails hbad post _)

end Sys2Proof.Machine

/-! PROOFS. An ARM answered: the outcome of its six checks in their order, and the state in which it leaves the job
(R8, R10 to R18, R208). -/

namespace Sys2Proof.Machine

open Sys2Proof.Statements

/-! ## The six checks in their order -/

theorem runChecks_of_checkPlate {js : JobStore} {stored : Nat} {e : ArmError × Nat} (c : Params)
    (hheader : checkHeader js = none) (hplate : checkPlate stored js = some e) :
    runChecks c stored js = (js, some e) := by
  simp only [runChecks, hheader, hplate]

theorem runChecks_of_checkParts {c : Params} {js : JobStore} {stored : Nat} {e : ArmError × Nat}
    (hheader : checkHeader js = none) (hplate : checkPlate stored js = none) (hparts : checkParts c js = some e) :
    runChecks c stored js = (js, some e) := by
  simp only [runChecks, hheader, hplate, hparts]

theorem runChecks_of_checkSegments {c : Params} {js js' : JobStore} {stored : Nat} {e : ArmError × Nat}
    (hheader : checkHeader js = none) (hplate : checkPlate stored js = none) (hparts : checkParts c js = none)
    (hsegs : checkSegments c (segmentVisits js) js = (js', some e)) : runChecks c stored js = (js', some e) := by
  simp only [runChecks, hheader, hplate, hparts, checkPaths, hsegs]

theorem runChecks_of_checkArcs {c : Params} {js js' : JobStore} {stored : Nat} {e : ArmError × Nat}
    (hheader : checkHeader js = none) (hplate : checkPlate stored js = none) (hparts : checkParts c js = none)
    (hsegs : checkSegments c (segmentVisits js) js = (js', none)) (harcs : checkArcs js' = some e) :
    runChecks c stored js = (js', some e) := by
  simp only [runChecks, hheader, hplate, hparts, checkPaths, hsegs, checkArcsThenMarks, harcs]

theorem runChecks_of_checkMarks {c : Params} {js js' : JobStore} {stored : Nat}
    (hheader : checkHeader js = none) (hplate : checkPlate stored js = none) (hparts : checkParts c js = none)
    (hsegs : checkSegments c (segmentVisits js) js = (js', none)) (harcs : checkArcs js' = none) :
    runChecks c stored js = checkMarks (markVisits js') js' := by
  simp only [runChecks, hheader, hplate, hparts, checkPaths, hsegs, checkArcsThenMarks, harcs]

/-! ## What the checks leave -/

/-- Two stores that differ in their derived values alone. -/
def DerivedOnly (js js' : JobStore) : Prop := js' = { js with lengths := js'.lengths, holds := js'.holds }

theorem DerivedOnly.refl (js : JobStore) : DerivedOnly js js := rfl

theorem DerivedOnly.trans {a b c : JobStore} (h : DerivedOnly a b) (h' : DerivedOnly b c) : DerivedOnly a c := by
  unfold DerivedOnly at h
  exact Eq.trans h' (by rw [h])

theorem checkSegments_derivedOnly (c : Params) (vs : List (Nat × Nat)) (js : JobStore) :
    DerivedOnly js (checkSegments c vs js).1 := by
  induction vs generalizing js with
  | nil => exact DerivedOnly.refl js
  | cons v vs ih =>
    unfold checkSegments
    dsimp only
    split
    · refine DerivedOnly.trans ?_ (ih _)
      rfl
    · exact DerivedOnly.refl js

theorem checkMarks_derivedOnly (vs : List (Nat × Nat)) (js : JobStore) : DerivedOnly js (checkMarks vs js).1 := by
  induction vs generalizing js with
  | nil => exact DerivedOnly.refl js
  | cons v vs ih =>
    unfold checkMarks
    dsimp only
    split
    · refine DerivedOnly.trans ?_ (ih _)
      split <;> rfl
    · exact DerivedOnly.refl js

theorem runChecks_derivedOnly (c : Params) (stored : Nat) (js : JobStore) :
    DerivedOnly js (runChecks c stored js).1 := by
  have hsegs := checkSegments_derivedOnly c (segmentVisits js) js
  unfold runChecks
  split
  · exact DerivedOnly.refl js
  · split
    · exact DerivedOnly.refl js
    · split
      · exact DerivedOnly.refl js
      · unfold checkPaths
        split
        · next js1 e h => rw [h] at hsegs; exact hsegs
        · next js1 h =>
          rw [h] at hsegs
          unfold checkArcsThenMarks
          split
          · exact hsegs
          · exact hsegs.trans (checkMarks_derivedOnly _ js1)

/-- The reading of the records bears on the held states, the queue, the flags and ARM's own progress alone. -/
theorem readRecords_leaves (is : List Nat) (s : State) : ∃ (arm : ArmRun) (held : Memory Held) (prs : RecordStore)
    (flags : Half), readRecords is s = { s with
      js := { s.js with arm := arm }, ps := { s.ps with held := held }, prs := prs
      jp := { s.jp with flags := flags } } := by
  induction is generalizing s with
  | nil => exact ⟨_, _, _, _, rfl⟩
  | cons i rest ih =>
    by_cases hcutting : recordState (armWord s i) = .cutting
    · cases hjoin : s.prs.canJoin i with
      | true =>
        rw [readRecords_cutting_joins hcutting hjoin]
        obtain ⟨arm, held, prs, flags, h⟩ := ih _
        exact ⟨arm, held, prs, flags, h⟩
      | false =>
        rw [readRecords_cutting_waits hcutting hjoin]
        exact ⟨_, _, _, _, rfl⟩
    · by_cases hunknown : recordState (armWord s i) = .unknown
      · rw [readRecords_unknown hunknown]
        obtain ⟨arm, held, prs, flags, h⟩ := ih _
        exact ⟨arm, held, prs, flags, h⟩
      · rw [readRecords_handed_on hcutting hunknown]
        obtain ⟨arm, held, prs, flags, h⟩ := ih _
        exact ⟨arm, held, prs, flags, h⟩

/-! ## An accepted ARM -/

/-- An ARM whose checks fail stands in ARMING with the failure for its own row (R10). -/
theorem exec_arm_fails {s : State} {e : ArmError} {idx : Nat} (ho : OrderArrives orderArm s)
    (hjob : s.ps.job = .disarmed ∨ s.ps.job = .done) (hfeed : s.prs.feed = none)
    (hfail : (armOutcome s).2 = some (e, idx)) :
    exec .arm s = .next (answeredOnly .accepted { armChecked s with
      js := { (armOutcome s).1 with arm := .failing e idx } }) := by
  rw [exec_arm_accepted ho hjob hfeed, beginArm_of_fails (s := marked .order s) hfail, armChecked_marked]
  exact congrArg Host.Outcome.next (recordAnswer_marked .accepted (setArm (.failing e idx) (armChecked s)))

/-- However its checks end, an accepted ARM leaves the job ARMING and the engine in STANDBY (R8, R10). -/
theorem exec_arm_leaves {s : State} (ho : OrderArrives orderArm s) (hjob : s.ps.job = .disarmed ∨ s.ps.job = .done)
    (hfeed : s.prs.feed = none) : ∃ (arm : ArmRun) (held : Memory Held) (prs : RecordStore) (flags : Half),
      exec .arm s = .next (answeredOnly .accepted { s with
        js := { s.js with
          armErr := .none, armIdx := 0, lengths := (armOutcome s).1.lengths, holds := (armOutcome s).1.holds
          arm := arm }
        ps := { s.ps with job := .arming, held := held }
        pe := { s.pe with engine := .standby, fired := 0 }, prs := prs, jp := { s.jp with flags := flags } })
      ∧ ∀ e idx, (armOutcome s).2 = some (e, idx) → arm = .failing e idx ∧ prs = s.prs ∧ held = [] := by
  have hstore : (armOutcome s).1 = { s.js with
      armErr := .none, armIdx := 0, lengths := (armOutcome s).1.lengths, holds := (armOutcome s).1.holds } :=
    runChecks_derivedOnly _ _ _
  cases houtcome : (armOutcome s).2 with
  | some e =>
    refine ⟨.failing e.1 e.2, [], s.prs, s.jp.flags, ?_, fun e' idx h => ?_⟩
    · rw [exec_arm_fails ho hjob hfeed houtcome, hstore]
      unfold armChecked
      rfl
    · cases h
      exact ⟨rfl, rfl, rfl⟩
  | none =>
    obtain ⟨arm, held, prs, flags, hread⟩ := readRecords_leaves (List.range (armOutcome s).1.partCount) (armChecked s)
    refine ⟨arm, held, prs, flags, ?_, fun e idx h => nomatch h⟩
    rw [exec_arm_passes ho hjob hfeed houtcome, hread]
    unfold armChecked
    dsimp only
    rw [hstore]

theorem armRule_arming {s : State} (h : s.ps.job = .arming) : armRule s = (.refusedBusy, s) := by
  rw [armRule, h]

theorem armRule_under_way {s : State} (h : s.ps.job = .armed ∨ s.ps.job = .running ∨ s.ps.job = .halted) :
    armRule s = (.refusedState, s) := by
  unfold armRule
  rcases h with h | h | h <;> rw [h]

theorem armRule_feeding {s : State} (h : s.ps.job = .disarmed ∨ s.ps.job = .done) (hfeed : s.prs.feed ≠ none) :
    armRule s = (.refusedBusy, s) := by
  have hbusy : s.prs.busy = true := Option.isSome_iff_ne_none.2 hfeed
  unfold armRule
  rcases h with h | h <;> rw [h] <;> exact if_pos hbusy

theorem signedField_21 (w : Word) :
    signedField w 0 21 = if w.toNat / 2 ^ 0 % 2 ^ 21 < 2 ^ 20 then ((w.toNat / 2 ^ 0 % 2 ^ 21 : Nat) : Int)
      else ((w.toNat / 2 ^ 0 % 2 ^ 21 : Nat) : Int) - 2 ^ 21 := by
  rw [signedField_eq, field_eq]
  refine if_congr ?_ rfl rfl
  omega

end Sys2Proof.Machine

namespace Sys2Proof.Proofs

open Sys2Proof.Machine Sys2Proof.Statements

/-- Settles O15: ARM answered by job state, its tables read, and its checks in their order. -/
theorem armAnswered : Obligations.ArmAnswered := by
  refine ⟨fun s ho => ⟨fun hjob hfeed => ?_,
    fun hjob hfeed => congrArg Host.Outcome.next (orderEdge_answeredOnly ho (armRule_feeding hjob hfeed)),
    fun hjob => congrArg Host.Outcome.next (orderEdge_answeredOnly ho (armRule_arming hjob)),
    fun hjob => congrArg Host.Outcome.next (orderEdge_answeredOnly ho (armRule_under_way hjob))⟩,
    fun js => ?_, fun c stored js => ?_⟩
  · intro c
    obtain ⟨arm, held, prs, flags, hexec, hfails⟩ := exec_arm_leaves ho hjob hfeed
    exact ⟨_, hexec, rfl, rfl, rfl, rfl, rfl, rfl, rfl, rfl, rfl, rfl, rfl, rfl, rfl, rfl, rfl, rfl, rfl, hfails⟩
  · intro bits coord
    have hfield (a lo len : Nat) : field (js.word a) lo len = bits a lo len := field_eq _ _ _
    have hcoord (a : Nat) : signedField (js.word a) 0 21 = coord a := signedField_21 _
    refine ⟨hfield 0 0 16, hfield 1 0 16, hfield 2 0 16, hfield 3 0 16, fun p => ?_, fun n => ?_, fun n => ?_,
      fun n => rfl, fun p => rfl, segStart_eq js, by decide, by decide, by decide⟩
    · simp only [JobStore.part, hfield, hcoord]
    · simp only [JobStore.segment, hfield, hcoord]
    · simp only [JobStore.mark, hfield]
  · intro segs marks measured arcs
    refine ⟨fun e he => runChecks_of_checkHeader c stored he, fun hheader => ⟨fun hstored => ?_,
      fun hstored hbad => runChecks_of_checkPlate c hheader (checkPlate_bad hstored hbad),
      fun hstored hlow hhigh hsame => ?_⟩⟩
    · exact runChecks_of_checkPlate c hheader (if_pos hstored)
    · have hplate := checkPlate_good hstored hlow hhigh hsame
      refine ⟨fun p hp hbad hbefore => runChecks_of_checkParts hheader hplate (checkParts_fails hp hbad hbefore),
        fun hparts => ⟨fun pre v post hvisits hgood hbad => ?_, fun hsegs => ?_⟩⟩
      · exact runChecks_of_checkSegments hheader hplate (checkParts_passes hparts)
          (checkSegments_first_fails hvisits hgood hbad)
      · have hmeasured := checkSegments_passes hsegs
        have harc (v : Nat × Nat) (hv : v ∈ segs) : arcFails measured v = true ↔ ¬ arcs v :=
          arcFails_iff (js := measured) (hsegs v hv).1
        refine ⟨fun pre v post hvisits hgood hbad => ?_, fun harcs => ?_⟩
        · have hmem : ∀ w ∈ pre ++ v :: post, w ∈ segs := fun w hw => hvisits ▸ hw
          refine runChecks_of_checkArcs hheader hplate (checkParts_passes hparts) hmeasured
            (checkArcs_fails (js := measured) hvisits (fun w hw => ?_) ?_)
          · exact fun hfails => (harc w (hmem w (List.mem_append_left _ hw))).1 hfails (hgood w hw)
          · exact (harc v (hmem v (List.mem_append_right _ (List.mem_cons_self ..)))).2 hbad
        · have hpass : checkArcs measured = none := checkArcs_passes (js := measured) fun v hv hfails =>
            (harc v hv).1 hfails (harcs v hv)
          have hmarks := runChecks_of_checkMarks hheader hplate (checkParts_passes hparts) hmeasured hpass
          refine ⟨fun pre v post hvisits hgood hbad => ?_, fun hgood => ?_⟩
          · exact hmarks.trans (checkMarks_first_fails (js := measured) hvisits hgood hbad)
          · exact hmarks.trans (checkMarks_passes (js := measured) hgood)

end Sys2Proof.Proofs
